-- ==== Sys2Proof/Word.lean ====
section
/-! DEFINITION. The two word types of the machine. -/

namespace Sys2Proof

/-- An 8-bit cell: a register, a clock counter, one byte of memory (spec/00_scope.md R7). -/
abbrev Byte := BitVec 8

/-- A 16-bit quantity: `pc`, `SP`, a register pair, an address (spec/00_scope.md R7). -/
abbrev Word := BitVec 16

end Sys2Proof
end

