-- ==== Sys2Proof/Config.lean ====
section
/-! DEFINITION. What an implementation fixes (spec/00_scope.md R9, spec/10_state.md R43): the two opcode tables'
parameters IMPL and COST, which no step writes, and what a byte of memory that nothing has written reads as.
The default values of IMPL and COST stand in Machine/Cost.lean. -/

namespace Sys2Proof

/-- One table entry's pair of costs in clock units, each a `u8` (spec/10_state.md R43, spec/92_eei_decisions.md D3). -/
structure CostPair where
  base    : Byte
  reduced : Byte
  deriving DecidableEq, Repr

/-- The parameters `IMPL` and `COST` of spec/00_scope.md R9, each indexed by an opcode key: whether the 0xCB escape
was read (`true`: the extended table), and the byte looked up. -/
structure Config where
  /-- The opcode has a table entry (spec/40_step_and_dispatch.md R119). -/
  impl : Bool → Byte → Bool
  /-- The entry's base and reduced cost (spec/40_step_and_dispatch.md R101). -/
  cost : Bool → Byte → CostPair

/-- What a byte of storage that no cell lists reads as: the model's own draw of INIT_MEM.
DESIGN CHOICE, unsafe (log entry 2): the spec leaves every such byte unspecified (spec/92_eei_decisions.md D9), and its
test vectors choose 0x00 (spec/95_test_vectors.md, conventions). -/
def Config.initByte : Byte := 0x00#8

end Sys2Proof
end

