-- ==== Sys2Proof/Syntax.lean ====
section
/-! DEFINITION. The instruction set as syntax: the operand fields of spec/30_encoding.md R83 to R88, and one
constructor of `Instr` for each row of spec/opcode_table.json, the rows with an immediate first (Lean compiles a
constructor with arguments only among the first 245), each group in the table's order. An immediate is an argument of
the constructor: `d8`, `a8` and `e8` one byte, `d16` and `a16` one word (spec/30_encoding.md R89). -/

namespace Sys2Proof

/-- The `r8` operand field (R83). `atHl` is no register: it names the memory byte at address HL. -/
inductive R8
  | b | c | d | e | h | l | atHl | a
  deriving DecidableEq, Repr

/-- The `rp` operand field (R84). -/
inductive Rp
  | bc | de | hl | sp
  deriving DecidableEq, Repr

/-- The `rp2` operand field (R85), of PUSH and POP. -/
inductive Rp2
  | bc | de | hl | af
  deriving DecidableEq, Repr

/-- The `cond` operand field (R86). -/
inductive Cond
  | nz | z | nc | c
  deriving DecidableEq, Repr

/-- The `alu` field (R87). -/
inductive AluOp
  | add | adc | sub | sbc | and | xor | or | cp
  deriving DecidableEq, Repr

/-- The `rot` field (R88). -/
inductive RotOp
  | rlc | rrc | rl | rr | sla | sra | swap | srl
  deriving DecidableEq, Repr

/-- The instructions: one constructor per row of spec/opcode_table.json (spec/30_encoding.md R90 to R95). In the names a
register is written with one capital (`ldBC` is LD B,C), a pair with a capital and a small letter (`ldBcD16` is
LD BC,d16), `At` stands for the parentheses of an operand in memory (`ldAtHlB` is LD (HL),B), and the rotates and shifts
of the extended table begin with `cb` (`cbRlA` is RL A, `rla` is RLA). -/
inductive Instr
  /-- LD BC,d16 (R148) -/
  | ldBcD16 (v : Word)
  /-- LD B,d8 (R131) -/
  | ldBD8 (v : Byte)
  /-- LD (a16),SP (R147) -/
  | ldAtA16Sp (t : Word)
  /-- LD C,d8 (R131) -/
  | ldCD8 (v : Byte)
  /-- STOP (R262) -/
  | stop (v : Byte)
  /-- LD DE,d16 (R148) -/
  | ldDeD16 (v : Word)
  /-- LD D,d8 (R131) -/
  | ldDD8 (v : Byte)
  /-- JR e8 (R213) -/
  | jrE8 (e : Byte)
  /-- LD E,d8 (R131) -/
  | ldED8 (v : Byte)
  /-- JR NZ,e8 (R214) -/
  | jrNzE8 (e : Byte)
  /-- LD HL,d16 (R148) -/
  | ldHlD16 (v : Word)
  /-- LD H,d8 (R131) -/
  | ldHD8 (v : Byte)
  /-- JR Z,e8 (R214) -/
  | jrZE8 (e : Byte)
  /-- LD L,d8 (R131) -/
  | ldLD8 (v : Byte)
  /-- JR NC,e8 (R214) -/
  | jrNcE8 (e : Byte)
  /-- LD SP,d16 (R148) -/
  | ldSpD16 (v : Word)
  /-- LD (HL),d8 (R134) -/
  | ldAtHlD8 (v : Byte)
  /-- JR C,e8 (R214) -/
  | jrCE8 (e : Byte)
  /-- LD A,d8 (R131) -/
  | ldAD8 (v : Byte)
  /-- JP NZ,a16 (R211) -/
  | jpNzA16 (t : Word)
  /-- JP a16 (R210) -/
  | jpA16 (t : Word)
  /-- CALL NZ,a16 (R216) -/
  | callNzA16 (t : Word)
  /-- ADD A,d8 (R162) -/
  | addAD8 (v : Byte)
  /-- JP Z,a16 (R211) -/
  | jpZA16 (t : Word)
  /-- CALL Z,a16 (R216) -/
  | callZA16 (t : Word)
  /-- CALL a16 (R215) -/
  | callA16 (t : Word)
  /-- ADC A,d8 (R165) -/
  | adcAD8 (v : Byte)
  /-- JP NC,a16 (R211) -/
  | jpNcA16 (t : Word)
  /-- CALL NC,a16 (R216) -/
  | callNcA16 (t : Word)
  /-- SUB d8 (R168) -/
  | subD8 (v : Byte)
  /-- JP C,a16 (R211) -/
  | jpCA16 (t : Word)
  /-- CALL C,a16 (R216) -/
  | callCA16 (t : Word)
  /-- SBC A,d8 (R171) -/
  | sbcAD8 (v : Byte)
  /-- LDH (a8),A (R144) -/
  | ldhAtA8A (v : Byte)
  /-- AND d8 (R174) -/
  | andD8 (v : Byte)
  /-- ADD SP,e8 (R203) -/
  | addSpE8 (e : Byte)
  /-- LD (a16),A (R142) -/
  | ldAtA16A (t : Word)
  /-- XOR d8 (R177) -/
  | xorD8 (v : Byte)
  /-- LDH A,(a8) (R143) -/
  | ldhAAtA8 (v : Byte)
  /-- OR d8 (R180) -/
  | orD8 (v : Byte)
  /-- LD HL,SP+e8 (R204) -/
  | ldHlSpE8 (e : Byte)
  /-- LD A,(a16) (R141) -/
  | ldAAtA16 (t : Word)
  /-- CP d8 (R183) -/
  | cpD8 (v : Byte)
  /-- NOP (R260) -/
  | nop
  /-- LD (BC),A (R136) -/
  | ldAtBcA
  /-- INC BC (R201) -/
  | incBc
  /-- INC B (R184) -/
  | incB
  /-- DEC B (R186) -/
  | decB
  /-- RLCA (R192) -/
  | rlca
  /-- ADD HL,BC (R200) -/
  | addHlBc
  /-- LD A,(BC) (R135) -/
  | ldAAtBc
  /-- DEC BC (R202) -/
  | decBc
  /-- INC C (R184) -/
  | incC
  /-- DEC C (R186) -/
  | decC
  /-- RRCA (R193) -/
  | rrca
  /-- LD (DE),A (R136) -/
  | ldAtDeA
  /-- INC DE (R201) -/
  | incDe
  /-- INC D (R184) -/
  | incD
  /-- DEC D (R186) -/
  | decD
  /-- RLA (R194) -/
  | rla
  /-- ADD HL,DE (R200) -/
  | addHlDe
  /-- LD A,(DE) (R135) -/
  | ldAAtDe
  /-- DEC DE (R202) -/
  | decDe
  /-- INC E (R184) -/
  | incE
  /-- DEC E (R186) -/
  | decE
  /-- RRA (R195) -/
  | rra
  /-- LD (HL+),A (R139) -/
  | ldAtHlIncA
  /-- INC HL (R201) -/
  | incHl
  /-- INC H (R184) -/
  | incH
  /-- DEC H (R186) -/
  | decH
  /-- DAA (R188) -/
  | daa
  /-- ADD HL,HL (R200) -/
  | addHlHl
  /-- LD A,(HL+) (R137) -/
  | ldAAtHlInc
  /-- DEC HL (R202) -/
  | decHl
  /-- INC L (R184) -/
  | incL
  /-- DEC L (R186) -/
  | decL
  /-- CPL (R189) -/
  | cpl
  /-- LD (HL-),A (R140) -/
  | ldAtHlDecA
  /-- INC SP (R201) -/
  | incSp
  /-- INC (HL) (R185) -/
  | incAtHl
  /-- DEC (HL) (R187) -/
  | decAtHl
  /-- SCF (R190) -/
  | scf
  /-- ADD HL,SP (R200) -/
  | addHlSp
  /-- LD A,(HL-) (R138) -/
  | ldAAtHlDec
  /-- DEC SP (R202) -/
  | decSp
  /-- INC A (R184) -/
  | incA
  /-- DEC A (R186) -/
  | decA
  /-- CCF (R191) -/
  | ccf
  /-- LD B,B (R130) -/
  | ldBB
  /-- LD B,C (R130) -/
  | ldBC
  /-- LD B,D (R130) -/
  | ldBD
  /-- LD B,E (R130) -/
  | ldBE
  /-- LD B,H (R130) -/
  | ldBH
  /-- LD B,L (R130) -/
  | ldBL
  /-- LD B,(HL) (R132) -/
  | ldBAtHl
  /-- LD B,A (R130) -/
  | ldBA
  /-- LD C,B (R130) -/
  | ldCB
  /-- LD C,C (R130) -/
  | ldCC
  /-- LD C,D (R130) -/
  | ldCD
  /-- LD C,E (R130) -/
  | ldCE
  /-- LD C,H (R130) -/
  | ldCH
  /-- LD C,L (R130) -/
  | ldCL
  /-- LD C,(HL) (R132) -/
  | ldCAtHl
  /-- LD C,A (R130) -/
  | ldCA
  /-- LD D,B (R130) -/
  | ldDB
  /-- LD D,C (R130) -/
  | ldDC
  /-- LD D,D (R130) -/
  | ldDD
  /-- LD D,E (R130) -/
  | ldDE
  /-- LD D,H (R130) -/
  | ldDH
  /-- LD D,L (R130) -/
  | ldDL
  /-- LD D,(HL) (R132) -/
  | ldDAtHl
  /-- LD D,A (R130) -/
  | ldDA
  /-- LD E,B (R130) -/
  | ldEB
  /-- LD E,C (R130) -/
  | ldEC
  /-- LD E,D (R130) -/
  | ldED
  /-- LD E,E (R130) -/
  | ldEE
  /-- LD E,H (R130) -/
  | ldEH
  /-- LD E,L (R130) -/
  | ldEL
  /-- LD E,(HL) (R132) -/
  | ldEAtHl
  /-- LD E,A (R130) -/
  | ldEA
  /-- LD H,B (R130) -/
  | ldHB
  /-- LD H,C (R130) -/
  | ldHC
  /-- LD H,D (R130) -/
  | ldHD
  /-- LD H,E (R130) -/
  | ldHE
  /-- LD H,H (R130) -/
  | ldHH
  /-- LD H,L (R130) -/
  | ldHL
  /-- LD H,(HL) (R132) -/
  | ldHAtHl
  /-- LD H,A (R130) -/
  | ldHA
  /-- LD L,B (R130) -/
  | ldLB
  /-- LD L,C (R130) -/
  | ldLC
  /-- LD L,D (R130) -/
  | ldLD
  /-- LD L,E (R130) -/
  | ldLE
  /-- LD L,H (R130) -/
  | ldLH
  /-- LD L,L (R130) -/
  | ldLL
  /-- LD L,(HL) (R132) -/
  | ldLAtHl
  /-- LD L,A (R130) -/
  | ldLA
  /-- LD (HL),B (R133) -/
  | ldAtHlB
  /-- LD (HL),C (R133) -/
  | ldAtHlC
  /-- LD (HL),D (R133) -/
  | ldAtHlD
  /-- LD (HL),E (R133) -/
  | ldAtHlE
  /-- LD (HL),H (R133) -/
  | ldAtHlH
  /-- LD (HL),L (R133) -/
  | ldAtHlL
  /-- HALT (R261) -/
  | halt
  /-- LD (HL),A (R133) -/
  | ldAtHlA
  /-- LD A,B (R130) -/
  | ldAB
  /-- LD A,C (R130) -/
  | ldAC
  /-- LD A,D (R130) -/
  | ldAD
  /-- LD A,E (R130) -/
  | ldAE
  /-- LD A,H (R130) -/
  | ldAH
  /-- LD A,L (R130) -/
  | ldAL
  /-- LD A,(HL) (R132) -/
  | ldAAtHl
  /-- LD A,A (R130) -/
  | ldAA
  /-- ADD A,B (R160) -/
  | addAB
  /-- ADD A,C (R160) -/
  | addAC
  /-- ADD A,D (R160) -/
  | addAD
  /-- ADD A,E (R160) -/
  | addAE
  /-- ADD A,H (R160) -/
  | addAH
  /-- ADD A,L (R160) -/
  | addAL
  /-- ADD A,(HL) (R161) -/
  | addAAtHl
  /-- ADD A,A (R160) -/
  | addAA
  /-- ADC A,B (R163) -/
  | adcAB
  /-- ADC A,C (R163) -/
  | adcAC
  /-- ADC A,D (R163) -/
  | adcAD
  /-- ADC A,E (R163) -/
  | adcAE
  /-- ADC A,H (R163) -/
  | adcAH
  /-- ADC A,L (R163) -/
  | adcAL
  /-- ADC A,(HL) (R164) -/
  | adcAAtHl
  /-- ADC A,A (R163) -/
  | adcAA
  /-- SUB B (R166) -/
  | subB
  /-- SUB C (R166) -/
  | subC
  /-- SUB D (R166) -/
  | subD
  /-- SUB E (R166) -/
  | subE
  /-- SUB H (R166) -/
  | subH
  /-- SUB L (R166) -/
  | subL
  /-- SUB (HL) (R167) -/
  | subAtHl
  /-- SUB A (R166) -/
  | subA
  /-- SBC A,B (R169) -/
  | sbcAB
  /-- SBC A,C (R169) -/
  | sbcAC
  /-- SBC A,D (R169) -/
  | sbcAD
  /-- SBC A,E (R169) -/
  | sbcAE
  /-- SBC A,H (R169) -/
  | sbcAH
  /-- SBC A,L (R169) -/
  | sbcAL
  /-- SBC A,(HL) (R170) -/
  | sbcAAtHl
  /-- SBC A,A (R169) -/
  | sbcAA
  /-- AND B (R172) -/
  | andB
  /-- AND C (R172) -/
  | andC
  /-- AND D (R172) -/
  | andD
  /-- AND E (R172) -/
  | andE
  /-- AND H (R172) -/
  | andH
  /-- AND L (R172) -/
  | andL
  /-- AND (HL) (R173) -/
  | andAtHl
  /-- AND A (R172) -/
  | andA
  /-- XOR B (R175) -/
  | xorB
  /-- XOR C (R175) -/
  | xorC
  /-- XOR D (R175) -/
  | xorD
  /-- XOR E (R175) -/
  | xorE
  /-- XOR H (R175) -/
  | xorH
  /-- XOR L (R175) -/
  | xorL
  /-- XOR (HL) (R176) -/
  | xorAtHl
  /-- XOR A (R175) -/
  | xorA
  /-- OR B (R178) -/
  | orB
  /-- OR C (R178) -/
  | orC
  /-- OR D (R178) -/
  | orD
  /-- OR E (R178) -/
  | orE
  /-- OR H (R178) -/
  | orH
  /-- OR L (R178) -/
  | orL
  /-- OR (HL) (R179) -/
  | orAtHl
  /-- OR A (R178) -/
  | orA
  /-- CP B (R181) -/
  | cpB
  /-- CP C (R181) -/
  | cpC
  /-- CP D (R181) -/
  | cpD
  /-- CP E (R181) -/
  | cpE
  /-- CP H (R181) -/
  | cpH
  /-- CP L (R181) -/
  | cpL
  /-- CP (HL) (R182) -/
  | cpAtHl
  /-- CP A (R181) -/
  | cpA
  /-- RET NZ (R218) -/
  | retNz
  /-- POP BC (R152) -/
  | popBc
  /-- PUSH BC (R150) -/
  | pushBc
  /-- RST 0x00 (R219) -/
  | rst00
  /-- RET Z (R218) -/
  | retZ
  /-- RET (R217) -/
  | ret
  /-- RST 0x08 (R219) -/
  | rst08
  /-- RET NC (R218) -/
  | retNc
  /-- POP DE (R152) -/
  | popDe
  /-- ILLEGAL 0xD3 (R265) -/
  | illegalD3
  /-- PUSH DE (R150) -/
  | pushDe
  /-- RST 0x10 (R219) -/
  | rst10
  /-- RET C (R218) -/
  | retC
  /-- RETI (R220) -/
  | reti
  /-- ILLEGAL 0xDB (R265) -/
  | illegalDB
  /-- ILLEGAL 0xDD (R265) -/
  | illegalDD
  /-- RST 0x18 (R219) -/
  | rst18
  /-- POP HL (R152) -/
  | popHl
  /-- LD (C),A (R146) -/
  | ldAtCA
  /-- ILLEGAL 0xE3 (R265) -/
  | illegalE3
  /-- ILLEGAL 0xE4 (R265) -/
  | illegalE4
  /-- PUSH HL (R150) -/
  | pushHl
  /-- RST 0x20 (R219) -/
  | rst20
  /-- JP HL (R212) -/
  | jpHl
  /-- ILLEGAL 0xEB (R265) -/
  | illegalEB
  /-- ILLEGAL 0xEC (R265) -/
  | illegalEC
  /-- ILLEGAL 0xED (R265) -/
  | illegalED
  /-- RST 0x28 (R219) -/
  | rst28
  /-- POP AF (R153) -/
  | popAf
  /-- LD A,(C) (R145) -/
  | ldAAtC
  /-- DI (R263) -/
  | di
  /-- ILLEGAL 0xF4 (R265) -/
  | illegalF4
  /-- PUSH AF (R151) -/
  | pushAf
  /-- RST 0x30 (R219) -/
  | rst30
  /-- LD SP,HL (R149) -/
  | ldSpHl
  /-- EI (R264) -/
  | ei
  /-- ILLEGAL 0xFC (R265) -/
  | illegalFC
  /-- ILLEGAL 0xFD (R265) -/
  | illegalFD
  /-- RST 0x38 (R219) -/
  | rst38
  /-- RLC B (R230) -/
  | cbRlcB
  /-- RLC C (R230) -/
  | cbRlcC
  /-- RLC D (R230) -/
  | cbRlcD
  /-- RLC E (R230) -/
  | cbRlcE
  /-- RLC H (R230) -/
  | cbRlcH
  /-- RLC L (R230) -/
  | cbRlcL
  /-- RLC (HL) (R231) -/
  | cbRlcAtHl
  /-- RLC A (R230) -/
  | cbRlcA
  /-- RRC B (R232) -/
  | cbRrcB
  /-- RRC C (R232) -/
  | cbRrcC
  /-- RRC D (R232) -/
  | cbRrcD
  /-- RRC E (R232) -/
  | cbRrcE
  /-- RRC H (R232) -/
  | cbRrcH
  /-- RRC L (R232) -/
  | cbRrcL
  /-- RRC (HL) (R233) -/
  | cbRrcAtHl
  /-- RRC A (R232) -/
  | cbRrcA
  /-- RL B (R234) -/
  | cbRlB
  /-- RL C (R234) -/
  | cbRlC
  /-- RL D (R234) -/
  | cbRlD
  /-- RL E (R234) -/
  | cbRlE
  /-- RL H (R234) -/
  | cbRlH
  /-- RL L (R234) -/
  | cbRlL
  /-- RL (HL) (R235) -/
  | cbRlAtHl
  /-- RL A (R234) -/
  | cbRlA
  /-- RR B (R236) -/
  | cbRrB
  /-- RR C (R236) -/
  | cbRrC
  /-- RR D (R236) -/
  | cbRrD
  /-- RR E (R236) -/
  | cbRrE
  /-- RR H (R236) -/
  | cbRrH
  /-- RR L (R236) -/
  | cbRrL
  /-- RR (HL) (R237) -/
  | cbRrAtHl
  /-- RR A (R236) -/
  | cbRrA
  /-- SLA B (R238) -/
  | cbSlaB
  /-- SLA C (R238) -/
  | cbSlaC
  /-- SLA D (R238) -/
  | cbSlaD
  /-- SLA E (R238) -/
  | cbSlaE
  /-- SLA H (R238) -/
  | cbSlaH
  /-- SLA L (R238) -/
  | cbSlaL
  /-- SLA (HL) (R239) -/
  | cbSlaAtHl
  /-- SLA A (R238) -/
  | cbSlaA
  /-- SRA B (R240) -/
  | cbSraB
  /-- SRA C (R240) -/
  | cbSraC
  /-- SRA D (R240) -/
  | cbSraD
  /-- SRA E (R240) -/
  | cbSraE
  /-- SRA H (R240) -/
  | cbSraH
  /-- SRA L (R240) -/
  | cbSraL
  /-- SRA (HL) (R241) -/
  | cbSraAtHl
  /-- SRA A (R240) -/
  | cbSraA
  /-- SWAP B (R242) -/
  | cbSwapB
  /-- SWAP C (R242) -/
  | cbSwapC
  /-- SWAP D (R242) -/
  | cbSwapD
  /-- SWAP E (R242) -/
  | cbSwapE
  /-- SWAP H (R242) -/
  | cbSwapH
  /-- SWAP L (R242) -/
  | cbSwapL
  /-- SWAP (HL) (R243) -/
  | cbSwapAtHl
  /-- SWAP A (R242) -/
  | cbSwapA
  /-- SRL B (R244) -/
  | cbSrlB
  /-- SRL C (R244) -/
  | cbSrlC
  /-- SRL D (R244) -/
  | cbSrlD
  /-- SRL E (R244) -/
  | cbSrlE
  /-- SRL H (R244) -/
  | cbSrlH
  /-- SRL L (R244) -/
  | cbSrlL
  /-- SRL (HL) (R245) -/
  | cbSrlAtHl
  /-- SRL A (R244) -/
  | cbSrlA
  /-- BIT 0,B (R246) -/
  | bit0B
  /-- BIT 0,C (R246) -/
  | bit0C
  /-- BIT 0,D (R246) -/
  | bit0D
  /-- BIT 0,E (R246) -/
  | bit0E
  /-- BIT 0,H (R246) -/
  | bit0H
  /-- BIT 0,L (R246) -/
  | bit0L
  /-- BIT 0,(HL) (R247) -/
  | bit0AtHl
  /-- BIT 0,A (R246) -/
  | bit0A
  /-- BIT 1,B (R246) -/
  | bit1B
  /-- BIT 1,C (R246) -/
  | bit1C
  /-- BIT 1,D (R246) -/
  | bit1D
  /-- BIT 1,E (R246) -/
  | bit1E
  /-- BIT 1,H (R246) -/
  | bit1H
  /-- BIT 1,L (R246) -/
  | bit1L
  /-- BIT 1,(HL) (R247) -/
  | bit1AtHl
  /-- BIT 1,A (R246) -/
  | bit1A
  /-- BIT 2,B (R246) -/
  | bit2B
  /-- BIT 2,C (R246) -/
  | bit2C
  /-- BIT 2,D (R246) -/
  | bit2D
  /-- BIT 2,E (R246) -/
  | bit2E
  /-- BIT 2,H (R246) -/
  | bit2H
  /-- BIT 2,L (R246) -/
  | bit2L
  /-- BIT 2,(HL) (R247) -/
  | bit2AtHl
  /-- BIT 2,A (R246) -/
  | bit2A
  /-- BIT 3,B (R246) -/
  | bit3B
  /-- BIT 3,C (R246) -/
  | bit3C
  /-- BIT 3,D (R246) -/
  | bit3D
  /-- BIT 3,E (R246) -/
  | bit3E
  /-- BIT 3,H (R246) -/
  | bit3H
  /-- BIT 3,L (R246) -/
  | bit3L
  /-- BIT 3,(HL) (R247) -/
  | bit3AtHl
  /-- BIT 3,A (R246) -/
  | bit3A
  /-- BIT 4,B (R246) -/
  | bit4B
  /-- BIT 4,C (R246) -/
  | bit4C
  /-- BIT 4,D (R246) -/
  | bit4D
  /-- BIT 4,E (R246) -/
  | bit4E
  /-- BIT 4,H (R246) -/
  | bit4H
  /-- BIT 4,L (R246) -/
  | bit4L
  /-- BIT 4,(HL) (R247) -/
  | bit4AtHl
  /-- BIT 4,A (R246) -/
  | bit4A
  /-- BIT 5,B (R246) -/
  | bit5B
  /-- BIT 5,C (R246) -/
  | bit5C
  /-- BIT 5,D (R246) -/
  | bit5D
  /-- BIT 5,E (R246) -/
  | bit5E
  /-- BIT 5,H (R246) -/
  | bit5H
  /-- BIT 5,L (R246) -/
  | bit5L
  /-- BIT 5,(HL) (R247) -/
  | bit5AtHl
  /-- BIT 5,A (R246) -/
  | bit5A
  /-- BIT 6,B (R246) -/
  | bit6B
  /-- BIT 6,C (R246) -/
  | bit6C
  /-- BIT 6,D (R246) -/
  | bit6D
  /-- BIT 6,E (R246) -/
  | bit6E
  /-- BIT 6,H (R246) -/
  | bit6H
  /-- BIT 6,L (R246) -/
  | bit6L
  /-- BIT 6,(HL) (R247) -/
  | bit6AtHl
  /-- BIT 6,A (R246) -/
  | bit6A
  /-- BIT 7,B (R246) -/
  | bit7B
  /-- BIT 7,C (R246) -/
  | bit7C
  /-- BIT 7,D (R246) -/
  | bit7D
  /-- BIT 7,E (R246) -/
  | bit7E
  /-- BIT 7,H (R246) -/
  | bit7H
  /-- BIT 7,L (R246) -/
  | bit7L
  /-- BIT 7,(HL) (R247) -/
  | bit7AtHl
  /-- BIT 7,A (R246) -/
  | bit7A
  /-- RES 0,B (R248) -/
  | res0B
  /-- RES 0,C (R248) -/
  | res0C
  /-- RES 0,D (R248) -/
  | res0D
  /-- RES 0,E (R248) -/
  | res0E
  /-- RES 0,H (R248) -/
  | res0H
  /-- RES 0,L (R248) -/
  | res0L
  /-- RES 0,(HL) (R249) -/
  | res0AtHl
  /-- RES 0,A (R248) -/
  | res0A
  /-- RES 1,B (R248) -/
  | res1B
  /-- RES 1,C (R248) -/
  | res1C
  /-- RES 1,D (R248) -/
  | res1D
  /-- RES 1,E (R248) -/
  | res1E
  /-- RES 1,H (R248) -/
  | res1H
  /-- RES 1,L (R248) -/
  | res1L
  /-- RES 1,(HL) (R249) -/
  | res1AtHl
  /-- RES 1,A (R248) -/
  | res1A
  /-- RES 2,B (R248) -/
  | res2B
  /-- RES 2,C (R248) -/
  | res2C
  /-- RES 2,D (R248) -/
  | res2D
  /-- RES 2,E (R248) -/
  | res2E
  /-- RES 2,H (R248) -/
  | res2H
  /-- RES 2,L (R248) -/
  | res2L
  /-- RES 2,(HL) (R249) -/
  | res2AtHl
  /-- RES 2,A (R248) -/
  | res2A
  /-- RES 3,B (R248) -/
  | res3B
  /-- RES 3,C (R248) -/
  | res3C
  /-- RES 3,D (R248) -/
  | res3D
  /-- RES 3,E (R248) -/
  | res3E
  /-- RES 3,H (R248) -/
  | res3H
  /-- RES 3,L (R248) -/
  | res3L
  /-- RES 3,(HL) (R249) -/
  | res3AtHl
  /-- RES 3,A (R248) -/
  | res3A
  /-- RES 4,B (R248) -/
  | res4B
  /-- RES 4,C (R248) -/
  | res4C
  /-- RES 4,D (R248) -/
  | res4D
  /-- RES 4,E (R248) -/
  | res4E
  /-- RES 4,H (R248) -/
  | res4H
  /-- RES 4,L (R248) -/
  | res4L
  /-- RES 4,(HL) (R249) -/
  | res4AtHl
  /-- RES 4,A (R248) -/
  | res4A
  /-- RES 5,B (R248) -/
  | res5B
  /-- RES 5,C (R248) -/
  | res5C
  /-- RES 5,D (R248) -/
  | res5D
  /-- RES 5,E (R248) -/
  | res5E
  /-- RES 5,H (R248) -/
  | res5H
  /-- RES 5,L (R248) -/
  | res5L
  /-- RES 5,(HL) (R249) -/
  | res5AtHl
  /-- RES 5,A (R248) -/
  | res5A
  /-- RES 6,B (R248) -/
  | res6B
  /-- RES 6,C (R248) -/
  | res6C
  /-- RES 6,D (R248) -/
  | res6D
  /-- RES 6,E (R248) -/
  | res6E
  /-- RES 6,H (R248) -/
  | res6H
  /-- RES 6,L (R248) -/
  | res6L
  /-- RES 6,(HL) (R249) -/
  | res6AtHl
  /-- RES 6,A (R248) -/
  | res6A
  /-- RES 7,B (R248) -/
  | res7B
  /-- RES 7,C (R248) -/
  | res7C
  /-- RES 7,D (R248) -/
  | res7D
  /-- RES 7,E (R248) -/
  | res7E
  /-- RES 7,H (R248) -/
  | res7H
  /-- RES 7,L (R248) -/
  | res7L
  /-- RES 7,(HL) (R249) -/
  | res7AtHl
  /-- RES 7,A (R248) -/
  | res7A
  /-- SET 0,B (R250) -/
  | set0B
  /-- SET 0,C (R250) -/
  | set0C
  /-- SET 0,D (R250) -/
  | set0D
  /-- SET 0,E (R250) -/
  | set0E
  /-- SET 0,H (R250) -/
  | set0H
  /-- SET 0,L (R250) -/
  | set0L
  /-- SET 0,(HL) (R251) -/
  | set0AtHl
  /-- SET 0,A (R250) -/
  | set0A
  /-- SET 1,B (R250) -/
  | set1B
  /-- SET 1,C (R250) -/
  | set1C
  /-- SET 1,D (R250) -/
  | set1D
  /-- SET 1,E (R250) -/
  | set1E
  /-- SET 1,H (R250) -/
  | set1H
  /-- SET 1,L (R250) -/
  | set1L
  /-- SET 1,(HL) (R251) -/
  | set1AtHl
  /-- SET 1,A (R250) -/
  | set1A
  /-- SET 2,B (R250) -/
  | set2B
  /-- SET 2,C (R250) -/
  | set2C
  /-- SET 2,D (R250) -/
  | set2D
  /-- SET 2,E (R250) -/
  | set2E
  /-- SET 2,H (R250) -/
  | set2H
  /-- SET 2,L (R250) -/
  | set2L
  /-- SET 2,(HL) (R251) -/
  | set2AtHl
  /-- SET 2,A (R250) -/
  | set2A
  /-- SET 3,B (R250) -/
  | set3B
  /-- SET 3,C (R250) -/
  | set3C
  /-- SET 3,D (R250) -/
  | set3D
  /-- SET 3,E (R250) -/
  | set3E
  /-- SET 3,H (R250) -/
  | set3H
  /-- SET 3,L (R250) -/
  | set3L
  /-- SET 3,(HL) (R251) -/
  | set3AtHl
  /-- SET 3,A (R250) -/
  | set3A
  /-- SET 4,B (R250) -/
  | set4B
  /-- SET 4,C (R250) -/
  | set4C
  /-- SET 4,D (R250) -/
  | set4D
  /-- SET 4,E (R250) -/
  | set4E
  /-- SET 4,H (R250) -/
  | set4H
  /-- SET 4,L (R250) -/
  | set4L
  /-- SET 4,(HL) (R251) -/
  | set4AtHl
  /-- SET 4,A (R250) -/
  | set4A
  /-- SET 5,B (R250) -/
  | set5B
  /-- SET 5,C (R250) -/
  | set5C
  /-- SET 5,D (R250) -/
  | set5D
  /-- SET 5,E (R250) -/
  | set5E
  /-- SET 5,H (R250) -/
  | set5H
  /-- SET 5,L (R250) -/
  | set5L
  /-- SET 5,(HL) (R251) -/
  | set5AtHl
  /-- SET 5,A (R250) -/
  | set5A
  /-- SET 6,B (R250) -/
  | set6B
  /-- SET 6,C (R250) -/
  | set6C
  /-- SET 6,D (R250) -/
  | set6D
  /-- SET 6,E (R250) -/
  | set6E
  /-- SET 6,H (R250) -/
  | set6H
  /-- SET 6,L (R250) -/
  | set6L
  /-- SET 6,(HL) (R251) -/
  | set6AtHl
  /-- SET 6,A (R250) -/
  | set6A
  /-- SET 7,B (R250) -/
  | set7B
  /-- SET 7,C (R250) -/
  | set7C
  /-- SET 7,D (R250) -/
  | set7D
  /-- SET 7,E (R250) -/
  | set7E
  /-- SET 7,H (R250) -/
  | set7H
  /-- SET 7,L (R250) -/
  | set7L
  /-- SET 7,(HL) (R251) -/
  | set7AtHl
  /-- SET 7,A (R250) -/
  | set7A
  deriving DecidableEq, Repr

end Sys2Proof
end

