-- ==== Sys2Proof/Decode.lean ====
section
/-! DEFINITION. Decoding and encoding. The decoder follows the opcode map by its fields (spec/30_encoding.md R80 to R98); the
encoder writes each instruction's bytes from the map's own rows. `decodeTableWord` is the host's view of the decoder. -/

namespace Sys2Proof

/-! ## Byte order (spec/20_memory.md R62) and fields -/

/-- `hi : lo`, the word `(hi << 8) | lo` of two bytes (spec/00_scope.md R11). -/
def joinBytes (hi lo : Byte) : Word := hi.setWidth 16 <<< 8 ||| lo.setWidth 16

/-- Bits 7:0 of a word. -/
def lowByte (v : Word) : Byte := v.extractLsb' 0 8

/-- Bits 15:8 of a word. -/
def highByte (v : Word) : Byte := v.extractLsb' 8 8

/-- `x = op[7:6]` (R81, R82). -/
def fieldX (op : Byte) : BitVec 2 := op.extractLsb' 6 2

/-- `y = op[5:3]` (R81, R82). -/
def fieldY (op : Byte) : BitVec 3 := op.extractLsb' 3 3

/-- `z = op[2:0]` (R81, R82). -/
def fieldZ (op : Byte) : BitVec 3 := op.extractLsb' 0 3

/-- `p = op[5:4]`, the upper two bits of `y` (R81). -/
def fieldP (op : Byte) : BitVec 2 := op.extractLsb' 4 2

/-- `q = op[3]` (R81). -/
def fieldQ (op : Byte) : Bool := op.getLsbD 3

/-- `r8(i)` (R83). -/
def R8.ofField : BitVec 3 → R8
  | 0#3 => .b | 1#3 => .c | 2#3 => .d | 3#3 => .e | 4#3 => .h | 5#3 => .l | 6#3 => .atHl | 7#3 => .a

/-- `rp(i)` (R84). -/
def Rp.ofField : BitVec 2 → Rp
  | 0#2 => .bc | 1#2 => .de | 2#2 => .hl | 3#2 => .sp

/-- `rp2(i)` (R85). -/
def Rp2.ofField : BitVec 2 → Rp2
  | 0#2 => .bc | 1#2 => .de | 2#2 => .hl | 3#2 => .af

/-- `cond(i)` (R86). -/
def Cond.ofField : BitVec 2 → Cond
  | 0#2 => .nz | 1#2 => .z | 2#2 => .nc | 3#2 => .c

/-- `alu(y)` (R87). -/
def AluOp.ofField : BitVec 3 → AluOp
  | 0#3 => .add | 1#3 => .adc | 2#3 => .sub | 3#3 => .sbc | 4#3 => .and | 5#3 => .xor | 6#3 => .or | 7#3 => .cp

/-- `rot(y)` (R88). -/
def RotOp.ofField : BitVec 3 → RotOp
  | 0#3 => .rlc | 1#3 => .rrc | 2#3 => .rl | 3#3 => .rr | 4#3 => .sla | 5#3 => .sra | 6#3 => .swap | 7#3 => .srl

/-! ## The instruction that stands at each place of a block of the map -/

/-- LD r8(y),r8(z), and HALT in the place of LD (HL),(HL) (R91). -/
def Instr.ld : R8 → R8 → Instr
  | .b, .b => .ldBB | .b, .c => .ldBC | .b, .d => .ldBD | .b, .e => .ldBE | .b, .h => .ldBH | .b, .l => .ldBL
  | .b, .atHl => .ldBAtHl | .b, .a => .ldBA
  | .c, .b => .ldCB | .c, .c => .ldCC | .c, .d => .ldCD | .c, .e => .ldCE | .c, .h => .ldCH | .c, .l => .ldCL
  | .c, .atHl => .ldCAtHl | .c, .a => .ldCA
  | .d, .b => .ldDB | .d, .c => .ldDC | .d, .d => .ldDD | .d, .e => .ldDE | .d, .h => .ldDH | .d, .l => .ldDL
  | .d, .atHl => .ldDAtHl | .d, .a => .ldDA
  | .e, .b => .ldEB | .e, .c => .ldEC | .e, .d => .ldED | .e, .e => .ldEE | .e, .h => .ldEH | .e, .l => .ldEL
  | .e, .atHl => .ldEAtHl | .e, .a => .ldEA
  | .h, .b => .ldHB | .h, .c => .ldHC | .h, .d => .ldHD | .h, .e => .ldHE | .h, .h => .ldHH | .h, .l => .ldHL
  | .h, .atHl => .ldHAtHl | .h, .a => .ldHA
  | .l, .b => .ldLB | .l, .c => .ldLC | .l, .d => .ldLD | .l, .e => .ldLE | .l, .h => .ldLH | .l, .l => .ldLL
  | .l, .atHl => .ldLAtHl | .l, .a => .ldLA
  | .atHl, .b => .ldAtHlB | .atHl, .c => .ldAtHlC | .atHl, .d => .ldAtHlD | .atHl, .e => .ldAtHlE
  | .atHl, .h => .ldAtHlH | .atHl, .l => .ldAtHlL | .atHl, .atHl => .halt | .atHl, .a => .ldAtHlA
  | .a, .b => .ldAB | .a, .c => .ldAC | .a, .d => .ldAD | .a, .e => .ldAE | .a, .h => .ldAH | .a, .l => .ldAL
  | .a, .atHl => .ldAAtHl | .a, .a => .ldAA

/-- LD r8(y),d8 (R90, z = 6). -/
def Instr.ldImm : R8 → Byte → Instr
  | .b, v => .ldBD8 v | .c, v => .ldCD8 v | .d, v => .ldDD8 v | .e, v => .ldED8 v | .h, v => .ldHD8 v
  | .l, v => .ldLD8 v | .atHl, v => .ldAtHlD8 v | .a, v => .ldAD8 v

/-- alu(y) A,r8(z) (R92). -/
def Instr.alu : AluOp → R8 → Instr
  | .add, .b => .addAB | .add, .c => .addAC | .add, .d => .addAD | .add, .e => .addAE | .add, .h => .addAH
  | .add, .l => .addAL | .add, .atHl => .addAAtHl | .add, .a => .addAA
  | .adc, .b => .adcAB | .adc, .c => .adcAC | .adc, .d => .adcAD | .adc, .e => .adcAE | .adc, .h => .adcAH
  | .adc, .l => .adcAL | .adc, .atHl => .adcAAtHl | .adc, .a => .adcAA
  | .sub, .b => .subB | .sub, .c => .subC | .sub, .d => .subD | .sub, .e => .subE | .sub, .h => .subH
  | .sub, .l => .subL | .sub, .atHl => .subAtHl | .sub, .a => .subA
  | .sbc, .b => .sbcAB | .sbc, .c => .sbcAC | .sbc, .d => .sbcAD | .sbc, .e => .sbcAE | .sbc, .h => .sbcAH
  | .sbc, .l => .sbcAL | .sbc, .atHl => .sbcAAtHl | .sbc, .a => .sbcAA
  | .and, .b => .andB | .and, .c => .andC | .and, .d => .andD | .and, .e => .andE | .and, .h => .andH
  | .and, .l => .andL | .and, .atHl => .andAtHl | .and, .a => .andA
  | .xor, .b => .xorB | .xor, .c => .xorC | .xor, .d => .xorD | .xor, .e => .xorE | .xor, .h => .xorH
  | .xor, .l => .xorL | .xor, .atHl => .xorAtHl | .xor, .a => .xorA
  | .or, .b => .orB | .or, .c => .orC | .or, .d => .orD | .or, .e => .orE | .or, .h => .orH | .or, .l => .orL
  | .or, .atHl => .orAtHl | .or, .a => .orA
  | .cp, .b => .cpB | .cp, .c => .cpC | .cp, .d => .cpD | .cp, .e => .cpE | .cp, .h => .cpH | .cp, .l => .cpL
  | .cp, .atHl => .cpAtHl | .cp, .a => .cpA

/-- alu(y) A,d8 (R93, z = 6). -/
def Instr.aluImm : AluOp → Byte → Instr
  | .add, v => .addAD8 v | .adc, v => .adcAD8 v | .sub, v => .subD8 v | .sbc, v => .sbcAD8 v | .and, v => .andD8 v
  | .xor, v => .xorD8 v | .or, v => .orD8 v | .cp, v => .cpD8 v

/-- INC r8(y) (R90, z = 4). -/
def Instr.inc : R8 → Instr
  | .b => .incB | .c => .incC | .d => .incD | .e => .incE | .h => .incH | .l => .incL | .atHl => .incAtHl
  | .a => .incA

/-- DEC r8(y) (R90, z = 5). -/
def Instr.dec : R8 → Instr
  | .b => .decB | .c => .decC | .d => .decD | .e => .decE | .h => .decH | .l => .decL | .atHl => .decAtHl
  | .a => .decA

/-- LD rp(p),d16 (R90, z = 1, q = 0). -/
def Instr.ldPair : Rp → Word → Instr
  | .bc, v => .ldBcD16 v | .de, v => .ldDeD16 v | .hl, v => .ldHlD16 v | .sp, v => .ldSpD16 v

/-- ADD HL,rp(p) (R90, z = 1, q = 1). -/
def Instr.addHl : Rp → Instr
  | .bc => .addHlBc | .de => .addHlDe | .hl => .addHlHl | .sp => .addHlSp

/-- INC rp(p) (R90, z = 3, q = 0). -/
def Instr.incPair : Rp → Instr
  | .bc => .incBc | .de => .incDe | .hl => .incHl | .sp => .incSp

/-- DEC rp(p) (R90, z = 3, q = 1). -/
def Instr.decPair : Rp → Instr
  | .bc => .decBc | .de => .decDe | .hl => .decHl | .sp => .decSp

/-- The stores of A to (BC), (DE), (HL+), (HL-) for p = 0..3 (R90, z = 2, q = 0). -/
def Instr.storeA : BitVec 2 → Instr
  | 0#2 => .ldAtBcA | 1#2 => .ldAtDeA | 2#2 => .ldAtHlIncA | 3#2 => .ldAtHlDecA

/-- The loads of A from (BC), (DE), (HL+), (HL-) for p = 0..3 (R90, z = 2, q = 1). -/
def Instr.loadA : BitVec 2 → Instr
  | 0#2 => .ldAAtBc | 1#2 => .ldAAtDe | 2#2 => .ldAAtHlInc | 3#2 => .ldAAtHlDec

/-- RLCA, RRCA, RLA, RRA, DAA, CPL, SCF, CCF for y = 0..7 (R90, z = 7). -/
def Instr.accumulator : BitVec 3 → Instr
  | 0#3 => .rlca | 1#3 => .rrca | 2#3 => .rla | 3#3 => .rra | 4#3 => .daa | 5#3 => .cpl | 6#3 => .scf | 7#3 => .ccf

/-- JR cond,e8 (R90, z = 0, y = 4..7). -/
def Instr.jr : Cond → Byte → Instr
  | .nz, v => .jrNzE8 v | .z, v => .jrZE8 v | .nc, v => .jrNcE8 v | .c, v => .jrCE8 v

/-- JP cond,a16 (R93, z = 2). -/
def Instr.jp : Cond → Word → Instr
  | .nz, v => .jpNzA16 v | .z, v => .jpZA16 v | .nc, v => .jpNcA16 v | .c, v => .jpCA16 v

/-- CALL cond,a16 (R93, z = 4). -/
def Instr.call : Cond → Word → Instr
  | .nz, v => .callNzA16 v | .z, v => .callZA16 v | .nc, v => .callNcA16 v | .c, v => .callCA16 v

/-- RET cond (R93, z = 0). -/
def Instr.retIf : Cond → Instr
  | .nz => .retNz | .z => .retZ | .nc => .retNc | .c => .retC

/-- PUSH rp2(p) (R93, z = 5, q = 0). -/
def Instr.push : Rp2 → Instr
  | .bc => .pushBc | .de => .pushDe | .hl => .pushHl | .af => .pushAf

/-- POP rp2(p) (R93, z = 1, q = 0). -/
def Instr.pop : Rp2 → Instr
  | .bc => .popBc | .de => .popDe | .hl => .popHl | .af => .popAf

/-- RST 8*y (R93, z = 7). -/
def Instr.rst : BitVec 3 → Instr
  | 0#3 => .rst00 | 1#3 => .rst08 | 2#3 => .rst10 | 3#3 => .rst18 | 4#3 => .rst20 | 5#3 => .rst28 | 6#3 => .rst30
  | 7#3 => .rst38

/-- rot(y) r8(z), the extended opcodes with x = 0 (R94). -/
def Instr.rot : RotOp → R8 → Instr
  | .rlc, .b => .cbRlcB | .rlc, .c => .cbRlcC | .rlc, .d => .cbRlcD | .rlc, .e => .cbRlcE | .rlc, .h => .cbRlcH
  | .rlc, .l => .cbRlcL | .rlc, .atHl => .cbRlcAtHl | .rlc, .a => .cbRlcA
  | .rrc, .b => .cbRrcB | .rrc, .c => .cbRrcC | .rrc, .d => .cbRrcD | .rrc, .e => .cbRrcE | .rrc, .h => .cbRrcH
  | .rrc, .l => .cbRrcL | .rrc, .atHl => .cbRrcAtHl | .rrc, .a => .cbRrcA
  | .rl, .b => .cbRlB | .rl, .c => .cbRlC | .rl, .d => .cbRlD | .rl, .e => .cbRlE | .rl, .h => .cbRlH
  | .rl, .l => .cbRlL | .rl, .atHl => .cbRlAtHl | .rl, .a => .cbRlA
  | .rr, .b => .cbRrB | .rr, .c => .cbRrC | .rr, .d => .cbRrD | .rr, .e => .cbRrE | .rr, .h => .cbRrH
  | .rr, .l => .cbRrL | .rr, .atHl => .cbRrAtHl | .rr, .a => .cbRrA
  | .sla, .b => .cbSlaB | .sla, .c => .cbSlaC | .sla, .d => .cbSlaD | .sla, .e => .cbSlaE | .sla, .h => .cbSlaH
  | .sla, .l => .cbSlaL | .sla, .atHl => .cbSlaAtHl | .sla, .a => .cbSlaA
  | .sra, .b => .cbSraB | .sra, .c => .cbSraC | .sra, .d => .cbSraD | .sra, .e => .cbSraE | .sra, .h => .cbSraH
  | .sra, .l => .cbSraL | .sra, .atHl => .cbSraAtHl | .sra, .a => .cbSraA
  | .swap, .b => .cbSwapB | .swap, .c => .cbSwapC | .swap, .d => .cbSwapD | .swap, .e => .cbSwapE
  | .swap, .h => .cbSwapH | .swap, .l => .cbSwapL | .swap, .atHl => .cbSwapAtHl | .swap, .a => .cbSwapA
  | .srl, .b => .cbSrlB | .srl, .c => .cbSrlC | .srl, .d => .cbSrlD | .srl, .e => .cbSrlE | .srl, .h => .cbSrlH
  | .srl, .l => .cbSrlL | .srl, .atHl => .cbSrlAtHl | .srl, .a => .cbSrlA

/-- BIT y,r8(z), the extended opcodes with x = 1 (R94). -/
def Instr.testBit : BitVec 3 → R8 → Instr
  | 0#3, .b => .bit0B | 0#3, .c => .bit0C | 0#3, .d => .bit0D | 0#3, .e => .bit0E | 0#3, .h => .bit0H
  | 0#3, .l => .bit0L | 0#3, .atHl => .bit0AtHl | 0#3, .a => .bit0A
  | 1#3, .b => .bit1B | 1#3, .c => .bit1C | 1#3, .d => .bit1D | 1#3, .e => .bit1E | 1#3, .h => .bit1H
  | 1#3, .l => .bit1L | 1#3, .atHl => .bit1AtHl | 1#3, .a => .bit1A
  | 2#3, .b => .bit2B | 2#3, .c => .bit2C | 2#3, .d => .bit2D | 2#3, .e => .bit2E | 2#3, .h => .bit2H
  | 2#3, .l => .bit2L | 2#3, .atHl => .bit2AtHl | 2#3, .a => .bit2A
  | 3#3, .b => .bit3B | 3#3, .c => .bit3C | 3#3, .d => .bit3D | 3#3, .e => .bit3E | 3#3, .h => .bit3H
  | 3#3, .l => .bit3L | 3#3, .atHl => .bit3AtHl | 3#3, .a => .bit3A
  | 4#3, .b => .bit4B | 4#3, .c => .bit4C | 4#3, .d => .bit4D | 4#3, .e => .bit4E | 4#3, .h => .bit4H
  | 4#3, .l => .bit4L | 4#3, .atHl => .bit4AtHl | 4#3, .a => .bit4A
  | 5#3, .b => .bit5B | 5#3, .c => .bit5C | 5#3, .d => .bit5D | 5#3, .e => .bit5E | 5#3, .h => .bit5H
  | 5#3, .l => .bit5L | 5#3, .atHl => .bit5AtHl | 5#3, .a => .bit5A
  | 6#3, .b => .bit6B | 6#3, .c => .bit6C | 6#3, .d => .bit6D | 6#3, .e => .bit6E | 6#3, .h => .bit6H
  | 6#3, .l => .bit6L | 6#3, .atHl => .bit6AtHl | 6#3, .a => .bit6A
  | 7#3, .b => .bit7B | 7#3, .c => .bit7C | 7#3, .d => .bit7D | 7#3, .e => .bit7E | 7#3, .h => .bit7H
  | 7#3, .l => .bit7L | 7#3, .atHl => .bit7AtHl | 7#3, .a => .bit7A

/-- RES y,r8(z), the extended opcodes with x = 2 (R94). -/
def Instr.resetBit : BitVec 3 → R8 → Instr
  | 0#3, .b => .res0B | 0#3, .c => .res0C | 0#3, .d => .res0D | 0#3, .e => .res0E | 0#3, .h => .res0H
  | 0#3, .l => .res0L | 0#3, .atHl => .res0AtHl | 0#3, .a => .res0A
  | 1#3, .b => .res1B | 1#3, .c => .res1C | 1#3, .d => .res1D | 1#3, .e => .res1E | 1#3, .h => .res1H
  | 1#3, .l => .res1L | 1#3, .atHl => .res1AtHl | 1#3, .a => .res1A
  | 2#3, .b => .res2B | 2#3, .c => .res2C | 2#3, .d => .res2D | 2#3, .e => .res2E | 2#3, .h => .res2H
  | 2#3, .l => .res2L | 2#3, .atHl => .res2AtHl | 2#3, .a => .res2A
  | 3#3, .b => .res3B | 3#3, .c => .res3C | 3#3, .d => .res3D | 3#3, .e => .res3E | 3#3, .h => .res3H
  | 3#3, .l => .res3L | 3#3, .atHl => .res3AtHl | 3#3, .a => .res3A
  | 4#3, .b => .res4B | 4#3, .c => .res4C | 4#3, .d => .res4D | 4#3, .e => .res4E | 4#3, .h => .res4H
  | 4#3, .l => .res4L | 4#3, .atHl => .res4AtHl | 4#3, .a => .res4A
  | 5#3, .b => .res5B | 5#3, .c => .res5C | 5#3, .d => .res5D | 5#3, .e => .res5E | 5#3, .h => .res5H
  | 5#3, .l => .res5L | 5#3, .atHl => .res5AtHl | 5#3, .a => .res5A
  | 6#3, .b => .res6B | 6#3, .c => .res6C | 6#3, .d => .res6D | 6#3, .e => .res6E | 6#3, .h => .res6H
  | 6#3, .l => .res6L | 6#3, .atHl => .res6AtHl | 6#3, .a => .res6A
  | 7#3, .b => .res7B | 7#3, .c => .res7C | 7#3, .d => .res7D | 7#3, .e => .res7E | 7#3, .h => .res7H
  | 7#3, .l => .res7L | 7#3, .atHl => .res7AtHl | 7#3, .a => .res7A

/-- SET y,r8(z), the extended opcodes with x = 3 (R94). -/
def Instr.setBit : BitVec 3 → R8 → Instr
  | 0#3, .b => .set0B | 0#3, .c => .set0C | 0#3, .d => .set0D | 0#3, .e => .set0E | 0#3, .h => .set0H
  | 0#3, .l => .set0L | 0#3, .atHl => .set0AtHl | 0#3, .a => .set0A
  | 1#3, .b => .set1B | 1#3, .c => .set1C | 1#3, .d => .set1D | 1#3, .e => .set1E | 1#3, .h => .set1H
  | 1#3, .l => .set1L | 1#3, .atHl => .set1AtHl | 1#3, .a => .set1A
  | 2#3, .b => .set2B | 2#3, .c => .set2C | 2#3, .d => .set2D | 2#3, .e => .set2E | 2#3, .h => .set2H
  | 2#3, .l => .set2L | 2#3, .atHl => .set2AtHl | 2#3, .a => .set2A
  | 3#3, .b => .set3B | 3#3, .c => .set3C | 3#3, .d => .set3D | 3#3, .e => .set3E | 3#3, .h => .set3H
  | 3#3, .l => .set3L | 3#3, .atHl => .set3AtHl | 3#3, .a => .set3A
  | 4#3, .b => .set4B | 4#3, .c => .set4C | 4#3, .d => .set4D | 4#3, .e => .set4E | 4#3, .h => .set4H
  | 4#3, .l => .set4L | 4#3, .atHl => .set4AtHl | 4#3, .a => .set4A
  | 5#3, .b => .set5B | 5#3, .c => .set5C | 5#3, .d => .set5D | 5#3, .e => .set5E | 5#3, .h => .set5H
  | 5#3, .l => .set5L | 5#3, .atHl => .set5AtHl | 5#3, .a => .set5A
  | 6#3, .b => .set6B | 6#3, .c => .set6C | 6#3, .d => .set6D | 6#3, .e => .set6E | 6#3, .h => .set6H
  | 6#3, .l => .set6L | 6#3, .atHl => .set6AtHl | 6#3, .a => .set6A
  | 7#3, .b => .set7B | 7#3, .c => .set7C | 7#3, .d => .set7D | 7#3, .e => .set7E | 7#3, .h => .set7H
  | 7#3, .l => .set7L | 7#3, .atHl => .set7AtHl | 7#3, .a => .set7A

/-! ## The two tables -/

/-- What a primary opcode byte selects: an instruction, an instruction that takes an immediate its handler fetches
(R89), or the escape to the extended table (R98). -/
inductive Entry
  | plain (i : Instr)
  | imm8 (f : Byte → Instr)
  | imm16 (f : Word → Instr)
  | escape

/-- The primary opcodes with x = 0 (R90). -/
def primaryX0 (op : Byte) : Entry :=
  match fieldZ op with
  | 0#3 =>
    match fieldY op with
    | 0#3 => .plain .nop
    | 1#3 => .imm16 .ldAtA16Sp
    | 2#3 => .imm8 .stop
    | 3#3 => .imm8 .jrE8
    | 4#3 => .imm8 (.jr .nz)
    | 5#3 => .imm8 (.jr .z)
    | 6#3 => .imm8 (.jr .nc)
    | 7#3 => .imm8 (.jr .c)
  | 1#3 => if fieldQ op then .plain (.addHl (.ofField (fieldP op))) else .imm16 (.ldPair (.ofField (fieldP op)))
  | 2#3 => .plain (if fieldQ op then .loadA (fieldP op) else .storeA (fieldP op))
  | 3#3 => .plain (if fieldQ op then .decPair (.ofField (fieldP op)) else .incPair (.ofField (fieldP op)))
  | 4#3 => .plain (.inc (.ofField (fieldY op)))
  | 5#3 => .plain (.dec (.ofField (fieldY op)))
  | 6#3 => .imm8 (.ldImm (.ofField (fieldY op)))
  | 7#3 => .plain (.accumulator (fieldY op))

/-- The primary opcodes with x = 3 (R93), the escape (R98) and the illegal opcodes (R95) among them. -/
def primaryX3 (op : Byte) : Entry :=
  match fieldZ op with
  | 0#3 =>
    match fieldY op with
    | 0#3 => .plain (.retIf .nz)
    | 1#3 => .plain (.retIf .z)
    | 2#3 => .plain (.retIf .nc)
    | 3#3 => .plain (.retIf .c)
    | 4#3 => .imm8 .ldhAtA8A
    | 5#3 => .imm8 .addSpE8
    | 6#3 => .imm8 .ldhAAtA8
    | 7#3 => .imm8 .ldHlSpE8
  | 1#3 =>
    if fieldQ op then
      match fieldP op with
      | 0#2 => .plain .ret
      | 1#2 => .plain .reti
      | 2#2 => .plain .jpHl
      | 3#2 => .plain .ldSpHl
    else .plain (.pop (.ofField (fieldP op)))
  | 2#3 =>
    match fieldY op with
    | 0#3 => .imm16 (.jp .nz)
    | 1#3 => .imm16 (.jp .z)
    | 2#3 => .imm16 (.jp .nc)
    | 3#3 => .imm16 (.jp .c)
    | 4#3 => .plain .ldAtCA
    | 5#3 => .imm16 .ldAtA16A
    | 6#3 => .plain .ldAAtC
    | 7#3 => .imm16 .ldAAtA16
  | 3#3 =>
    match fieldY op with
    | 0#3 => .imm16 .jpA16
    | 1#3 => .escape
    | 2#3 => .plain .illegalD3
    | 3#3 => .plain .illegalDB
    | 4#3 => .plain .illegalE3
    | 5#3 => .plain .illegalEB
    | 6#3 => .plain .di
    | 7#3 => .plain .ei
  | 4#3 =>
    match fieldY op with
    | 0#3 => .imm16 (.call .nz)
    | 1#3 => .imm16 (.call .z)
    | 2#3 => .imm16 (.call .nc)
    | 3#3 => .imm16 (.call .c)
    | 4#3 => .plain .illegalE4
    | 5#3 => .plain .illegalEC
    | 6#3 => .plain .illegalF4
    | 7#3 => .plain .illegalFC
  | 5#3 =>
    if fieldQ op then
      match fieldP op with
      | 0#2 => .imm16 .callA16
      | 1#2 => .plain .illegalDD
      | 2#2 => .plain .illegalED
      | 3#2 => .plain .illegalFD
    else .plain (.push (.ofField (fieldP op)))
  | 6#3 => .imm8 (.aluImm (.ofField (fieldY op)))
  | 7#3 => .plain (.rst (fieldY op))

/-- The primary table: what each of the 256 opcode bytes selects (R90 to R93, R95, R98). -/
def primary (op : Byte) : Entry :=
  match fieldX op with
  | 0#2 => primaryX0 op
  | 1#2 => .plain (.ld (.ofField (fieldY op)) (.ofField (fieldZ op)))
  | 2#2 => .plain (.alu (.ofField (fieldY op)) (.ofField (fieldZ op)))
  | 3#2 => primaryX3 op

/-- The extended table: the instruction of each byte after the escape, all 256 defined (R94). -/
def extended (key : Byte) : Instr :=
  match fieldX key with
  | 0#2 => .rot (.ofField (fieldY key)) (.ofField (fieldZ key))
  | 1#2 => .testBit (fieldY key) (.ofField (fieldZ key))
  | 2#2 => .resetBit (fieldY key) (.ofField (fieldZ key))
  | 3#2 => .setBit (fieldY key) (.ofField (fieldZ key))

/-! ## Decoding -/

/-- Why a list of bytes is not decoded. Every opcode byte decodes (the illegal ones to their own rows), so a list is turned
away only for ending before its instruction does. -/
inductive DecodeReject
  /-- There is no opcode byte. -/
  | noOpcode
  /-- The escape byte 0xCB is the last byte (R98). -/
  | noExtendedOpcode
  /-- An immediate byte the opcode calls for is missing (R80). -/
  | noImmediate
  deriving DecidableEq, Repr

/-- The instruction at the front of a list of bytes, and the bytes after it. -/
def decode : List Byte → Except DecodeReject (Instr × List Byte)
  | [] => .error .noOpcode
  | op :: rest =>
    match primary op, rest with
    | .plain i, rest => .ok (i, rest)
    | .imm8 f, v :: rest => .ok (f v, rest)
    | .imm16 f, lo :: hi :: rest => .ok (f (joinBytes hi lo), rest)
    | .escape, key :: rest => .ok (extended key, rest)
    | .escape, [] => .error .noExtendedOpcode
    | .imm8 _, [] => .error .noImmediate
    | .imm16 _, [] => .error .noImmediate
    | .imm16 _, [_] => .error .noImmediate

/-! ## Encoding -/

/-- The bytes of an instruction, the first at the lowest address (R80): each row's opcode byte or bytes from the maps of
spec/30_encoding.md section 4, then its immediate, low byte first (R89). -/
def encode : Instr → List Byte
  | .nop => [0x00#8]
  | .ldBcD16 v => [0x01#8, lowByte v, highByte v]
  | .ldAtBcA => [0x02#8]
  | .incBc => [0x03#8]
  | .incB => [0x04#8]
  | .decB => [0x05#8]
  | .ldBD8 v => [0x06#8, v]
  | .rlca => [0x07#8]
  | .ldAtA16Sp t => [0x08#8, lowByte t, highByte t]
  | .addHlBc => [0x09#8]
  | .ldAAtBc => [0x0A#8]
  | .decBc => [0x0B#8]
  | .incC => [0x0C#8]
  | .decC => [0x0D#8]
  | .ldCD8 v => [0x0E#8, v]
  | .rrca => [0x0F#8]
  | .stop v => [0x10#8, v]
  | .ldDeD16 v => [0x11#8, lowByte v, highByte v]
  | .ldAtDeA => [0x12#8]
  | .incDe => [0x13#8]
  | .incD => [0x14#8]
  | .decD => [0x15#8]
  | .ldDD8 v => [0x16#8, v]
  | .rla => [0x17#8]
  | .jrE8 e => [0x18#8, e]
  | .addHlDe => [0x19#8]
  | .ldAAtDe => [0x1A#8]
  | .decDe => [0x1B#8]
  | .incE => [0x1C#8]
  | .decE => [0x1D#8]
  | .ldED8 v => [0x1E#8, v]
  | .rra => [0x1F#8]
  | .jrNzE8 e => [0x20#8, e]
  | .ldHlD16 v => [0x21#8, lowByte v, highByte v]
  | .ldAtHlIncA => [0x22#8]
  | .incHl => [0x23#8]
  | .incH => [0x24#8]
  | .decH => [0x25#8]
  | .ldHD8 v => [0x26#8, v]
  | .daa => [0x27#8]
  | .jrZE8 e => [0x28#8, e]
  | .addHlHl => [0x29#8]
  | .ldAAtHlInc => [0x2A#8]
  | .decHl => [0x2B#8]
  | .incL => [0x2C#8]
  | .decL => [0x2D#8]
  | .ldLD8 v => [0x2E#8, v]
  | .cpl => [0x2F#8]
  | .jrNcE8 e => [0x30#8, e]
  | .ldSpD16 v => [0x31#8, lowByte v, highByte v]
  | .ldAtHlDecA => [0x32#8]
  | .incSp => [0x33#8]
  | .incAtHl => [0x34#8]
  | .decAtHl => [0x35#8]
  | .ldAtHlD8 v => [0x36#8, v]
  | .scf => [0x37#8]
  | .jrCE8 e => [0x38#8, e]
  | .addHlSp => [0x39#8]
  | .ldAAtHlDec => [0x3A#8]
  | .decSp => [0x3B#8]
  | .incA => [0x3C#8]
  | .decA => [0x3D#8]
  | .ldAD8 v => [0x3E#8, v]
  | .ccf => [0x3F#8]
  | .ldBB => [0x40#8]
  | .ldBC => [0x41#8]
  | .ldBD => [0x42#8]
  | .ldBE => [0x43#8]
  | .ldBH => [0x44#8]
  | .ldBL => [0x45#8]
  | .ldBAtHl => [0x46#8]
  | .ldBA => [0x47#8]
  | .ldCB => [0x48#8]
  | .ldCC => [0x49#8]
  | .ldCD => [0x4A#8]
  | .ldCE => [0x4B#8]
  | .ldCH => [0x4C#8]
  | .ldCL => [0x4D#8]
  | .ldCAtHl => [0x4E#8]
  | .ldCA => [0x4F#8]
  | .ldDB => [0x50#8]
  | .ldDC => [0x51#8]
  | .ldDD => [0x52#8]
  | .ldDE => [0x53#8]
  | .ldDH => [0x54#8]
  | .ldDL => [0x55#8]
  | .ldDAtHl => [0x56#8]
  | .ldDA => [0x57#8]
  | .ldEB => [0x58#8]
  | .ldEC => [0x59#8]
  | .ldED => [0x5A#8]
  | .ldEE => [0x5B#8]
  | .ldEH => [0x5C#8]
  | .ldEL => [0x5D#8]
  | .ldEAtHl => [0x5E#8]
  | .ldEA => [0x5F#8]
  | .ldHB => [0x60#8]
  | .ldHC => [0x61#8]
  | .ldHD => [0x62#8]
  | .ldHE => [0x63#8]
  | .ldHH => [0x64#8]
  | .ldHL => [0x65#8]
  | .ldHAtHl => [0x66#8]
  | .ldHA => [0x67#8]
  | .ldLB => [0x68#8]
  | .ldLC => [0x69#8]
  | .ldLD => [0x6A#8]
  | .ldLE => [0x6B#8]
  | .ldLH => [0x6C#8]
  | .ldLL => [0x6D#8]
  | .ldLAtHl => [0x6E#8]
  | .ldLA => [0x6F#8]
  | .ldAtHlB => [0x70#8]
  | .ldAtHlC => [0x71#8]
  | .ldAtHlD => [0x72#8]
  | .ldAtHlE => [0x73#8]
  | .ldAtHlH => [0x74#8]
  | .ldAtHlL => [0x75#8]
  | .halt => [0x76#8]
  | .ldAtHlA => [0x77#8]
  | .ldAB => [0x78#8]
  | .ldAC => [0x79#8]
  | .ldAD => [0x7A#8]
  | .ldAE => [0x7B#8]
  | .ldAH => [0x7C#8]
  | .ldAL => [0x7D#8]
  | .ldAAtHl => [0x7E#8]
  | .ldAA => [0x7F#8]
  | .addAB => [0x80#8]
  | .addAC => [0x81#8]
  | .addAD => [0x82#8]
  | .addAE => [0x83#8]
  | .addAH => [0x84#8]
  | .addAL => [0x85#8]
  | .addAAtHl => [0x86#8]
  | .addAA => [0x87#8]
  | .adcAB => [0x88#8]
  | .adcAC => [0x89#8]
  | .adcAD => [0x8A#8]
  | .adcAE => [0x8B#8]
  | .adcAH => [0x8C#8]
  | .adcAL => [0x8D#8]
  | .adcAAtHl => [0x8E#8]
  | .adcAA => [0x8F#8]
  | .subB => [0x90#8]
  | .subC => [0x91#8]
  | .subD => [0x92#8]
  | .subE => [0x93#8]
  | .subH => [0x94#8]
  | .subL => [0x95#8]
  | .subAtHl => [0x96#8]
  | .subA => [0x97#8]
  | .sbcAB => [0x98#8]
  | .sbcAC => [0x99#8]
  | .sbcAD => [0x9A#8]
  | .sbcAE => [0x9B#8]
  | .sbcAH => [0x9C#8]
  | .sbcAL => [0x9D#8]
  | .sbcAAtHl => [0x9E#8]
  | .sbcAA => [0x9F#8]
  | .andB => [0xA0#8]
  | .andC => [0xA1#8]
  | .andD => [0xA2#8]
  | .andE => [0xA3#8]
  | .andH => [0xA4#8]
  | .andL => [0xA5#8]
  | .andAtHl => [0xA6#8]
  | .andA => [0xA7#8]
  | .xorB => [0xA8#8]
  | .xorC => [0xA9#8]
  | .xorD => [0xAA#8]
  | .xorE => [0xAB#8]
  | .xorH => [0xAC#8]
  | .xorL => [0xAD#8]
  | .xorAtHl => [0xAE#8]
  | .xorA => [0xAF#8]
  | .orB => [0xB0#8]
  | .orC => [0xB1#8]
  | .orD => [0xB2#8]
  | .orE => [0xB3#8]
  | .orH => [0xB4#8]
  | .orL => [0xB5#8]
  | .orAtHl => [0xB6#8]
  | .orA => [0xB7#8]
  | .cpB => [0xB8#8]
  | .cpC => [0xB9#8]
  | .cpD => [0xBA#8]
  | .cpE => [0xBB#8]
  | .cpH => [0xBC#8]
  | .cpL => [0xBD#8]
  | .cpAtHl => [0xBE#8]
  | .cpA => [0xBF#8]
  | .retNz => [0xC0#8]
  | .popBc => [0xC1#8]
  | .jpNzA16 t => [0xC2#8, lowByte t, highByte t]
  | .jpA16 t => [0xC3#8, lowByte t, highByte t]
  | .callNzA16 t => [0xC4#8, lowByte t, highByte t]
  | .pushBc => [0xC5#8]
  | .addAD8 v => [0xC6#8, v]
  | .rst00 => [0xC7#8]
  | .retZ => [0xC8#8]
  | .ret => [0xC9#8]
  | .jpZA16 t => [0xCA#8, lowByte t, highByte t]
  | .callZA16 t => [0xCC#8, lowByte t, highByte t]
  | .callA16 t => [0xCD#8, lowByte t, highByte t]
  | .adcAD8 v => [0xCE#8, v]
  | .rst08 => [0xCF#8]
  | .retNc => [0xD0#8]
  | .popDe => [0xD1#8]
  | .jpNcA16 t => [0xD2#8, lowByte t, highByte t]
  | .illegalD3 => [0xD3#8]
  | .callNcA16 t => [0xD4#8, lowByte t, highByte t]
  | .pushDe => [0xD5#8]
  | .subD8 v => [0xD6#8, v]
  | .rst10 => [0xD7#8]
  | .retC => [0xD8#8]
  | .reti => [0xD9#8]
  | .jpCA16 t => [0xDA#8, lowByte t, highByte t]
  | .illegalDB => [0xDB#8]
  | .callCA16 t => [0xDC#8, lowByte t, highByte t]
  | .illegalDD => [0xDD#8]
  | .sbcAD8 v => [0xDE#8, v]
  | .rst18 => [0xDF#8]
  | .ldhAtA8A v => [0xE0#8, v]
  | .popHl => [0xE1#8]
  | .ldAtCA => [0xE2#8]
  | .illegalE3 => [0xE3#8]
  | .illegalE4 => [0xE4#8]
  | .pushHl => [0xE5#8]
  | .andD8 v => [0xE6#8, v]
  | .rst20 => [0xE7#8]
  | .addSpE8 e => [0xE8#8, e]
  | .jpHl => [0xE9#8]
  | .ldAtA16A t => [0xEA#8, lowByte t, highByte t]
  | .illegalEB => [0xEB#8]
  | .illegalEC => [0xEC#8]
  | .illegalED => [0xED#8]
  | .xorD8 v => [0xEE#8, v]
  | .rst28 => [0xEF#8]
  | .ldhAAtA8 v => [0xF0#8, v]
  | .popAf => [0xF1#8]
  | .ldAAtC => [0xF2#8]
  | .di => [0xF3#8]
  | .illegalF4 => [0xF4#8]
  | .pushAf => [0xF5#8]
  | .orD8 v => [0xF6#8, v]
  | .rst30 => [0xF7#8]
  | .ldHlSpE8 e => [0xF8#8, e]
  | .ldSpHl => [0xF9#8]
  | .ldAAtA16 t => [0xFA#8, lowByte t, highByte t]
  | .ei => [0xFB#8]
  | .illegalFC => [0xFC#8]
  | .illegalFD => [0xFD#8]
  | .cpD8 v => [0xFE#8, v]
  | .rst38 => [0xFF#8]
  | .cbRlcB => [0xCB#8, 0x00#8]
  | .cbRlcC => [0xCB#8, 0x01#8]
  | .cbRlcD => [0xCB#8, 0x02#8]
  | .cbRlcE => [0xCB#8, 0x03#8]
  | .cbRlcH => [0xCB#8, 0x04#8]
  | .cbRlcL => [0xCB#8, 0x05#8]
  | .cbRlcAtHl => [0xCB#8, 0x06#8]
  | .cbRlcA => [0xCB#8, 0x07#8]
  | .cbRrcB => [0xCB#8, 0x08#8]
  | .cbRrcC => [0xCB#8, 0x09#8]
  | .cbRrcD => [0xCB#8, 0x0A#8]
  | .cbRrcE => [0xCB#8, 0x0B#8]
  | .cbRrcH => [0xCB#8, 0x0C#8]
  | .cbRrcL => [0xCB#8, 0x0D#8]
  | .cbRrcAtHl => [0xCB#8, 0x0E#8]
  | .cbRrcA => [0xCB#8, 0x0F#8]
  | .cbRlB => [0xCB#8, 0x10#8]
  | .cbRlC => [0xCB#8, 0x11#8]
  | .cbRlD => [0xCB#8, 0x12#8]
  | .cbRlE => [0xCB#8, 0x13#8]
  | .cbRlH => [0xCB#8, 0x14#8]
  | .cbRlL => [0xCB#8, 0x15#8]
  | .cbRlAtHl => [0xCB#8, 0x16#8]
  | .cbRlA => [0xCB#8, 0x17#8]
  | .cbRrB => [0xCB#8, 0x18#8]
  | .cbRrC => [0xCB#8, 0x19#8]
  | .cbRrD => [0xCB#8, 0x1A#8]
  | .cbRrE => [0xCB#8, 0x1B#8]
  | .cbRrH => [0xCB#8, 0x1C#8]
  | .cbRrL => [0xCB#8, 0x1D#8]
  | .cbRrAtHl => [0xCB#8, 0x1E#8]
  | .cbRrA => [0xCB#8, 0x1F#8]
  | .cbSlaB => [0xCB#8, 0x20#8]
  | .cbSlaC => [0xCB#8, 0x21#8]
  | .cbSlaD => [0xCB#8, 0x22#8]
  | .cbSlaE => [0xCB#8, 0x23#8]
  | .cbSlaH => [0xCB#8, 0x24#8]
  | .cbSlaL => [0xCB#8, 0x25#8]
  | .cbSlaAtHl => [0xCB#8, 0x26#8]
  | .cbSlaA => [0xCB#8, 0x27#8]
  | .cbSraB => [0xCB#8, 0x28#8]
  | .cbSraC => [0xCB#8, 0x29#8]
  | .cbSraD => [0xCB#8, 0x2A#8]
  | .cbSraE => [0xCB#8, 0x2B#8]
  | .cbSraH => [0xCB#8, 0x2C#8]
  | .cbSraL => [0xCB#8, 0x2D#8]
  | .cbSraAtHl => [0xCB#8, 0x2E#8]
  | .cbSraA => [0xCB#8, 0x2F#8]
  | .cbSwapB => [0xCB#8, 0x30#8]
  | .cbSwapC => [0xCB#8, 0x31#8]
  | .cbSwapD => [0xCB#8, 0x32#8]
  | .cbSwapE => [0xCB#8, 0x33#8]
  | .cbSwapH => [0xCB#8, 0x34#8]
  | .cbSwapL => [0xCB#8, 0x35#8]
  | .cbSwapAtHl => [0xCB#8, 0x36#8]
  | .cbSwapA => [0xCB#8, 0x37#8]
  | .cbSrlB => [0xCB#8, 0x38#8]
  | .cbSrlC => [0xCB#8, 0x39#8]
  | .cbSrlD => [0xCB#8, 0x3A#8]
  | .cbSrlE => [0xCB#8, 0x3B#8]
  | .cbSrlH => [0xCB#8, 0x3C#8]
  | .cbSrlL => [0xCB#8, 0x3D#8]
  | .cbSrlAtHl => [0xCB#8, 0x3E#8]
  | .cbSrlA => [0xCB#8, 0x3F#8]
  | .bit0B => [0xCB#8, 0x40#8]
  | .bit0C => [0xCB#8, 0x41#8]
  | .bit0D => [0xCB#8, 0x42#8]
  | .bit0E => [0xCB#8, 0x43#8]
  | .bit0H => [0xCB#8, 0x44#8]
  | .bit0L => [0xCB#8, 0x45#8]
  | .bit0AtHl => [0xCB#8, 0x46#8]
  | .bit0A => [0xCB#8, 0x47#8]
  | .bit1B => [0xCB#8, 0x48#8]
  | .bit1C => [0xCB#8, 0x49#8]
  | .bit1D => [0xCB#8, 0x4A#8]
  | .bit1E => [0xCB#8, 0x4B#8]
  | .bit1H => [0xCB#8, 0x4C#8]
  | .bit1L => [0xCB#8, 0x4D#8]
  | .bit1AtHl => [0xCB#8, 0x4E#8]
  | .bit1A => [0xCB#8, 0x4F#8]
  | .bit2B => [0xCB#8, 0x50#8]
  | .bit2C => [0xCB#8, 0x51#8]
  | .bit2D => [0xCB#8, 0x52#8]
  | .bit2E => [0xCB#8, 0x53#8]
  | .bit2H => [0xCB#8, 0x54#8]
  | .bit2L => [0xCB#8, 0x55#8]
  | .bit2AtHl => [0xCB#8, 0x56#8]
  | .bit2A => [0xCB#8, 0x57#8]
  | .bit3B => [0xCB#8, 0x58#8]
  | .bit3C => [0xCB#8, 0x59#8]
  | .bit3D => [0xCB#8, 0x5A#8]
  | .bit3E => [0xCB#8, 0x5B#8]
  | .bit3H => [0xCB#8, 0x5C#8]
  | .bit3L => [0xCB#8, 0x5D#8]
  | .bit3AtHl => [0xCB#8, 0x5E#8]
  | .bit3A => [0xCB#8, 0x5F#8]
  | .bit4B => [0xCB#8, 0x60#8]
  | .bit4C => [0xCB#8, 0x61#8]
  | .bit4D => [0xCB#8, 0x62#8]
  | .bit4E => [0xCB#8, 0x63#8]
  | .bit4H => [0xCB#8, 0x64#8]
  | .bit4L => [0xCB#8, 0x65#8]
  | .bit4AtHl => [0xCB#8, 0x66#8]
  | .bit4A => [0xCB#8, 0x67#8]
  | .bit5B => [0xCB#8, 0x68#8]
  | .bit5C => [0xCB#8, 0x69#8]
  | .bit5D => [0xCB#8, 0x6A#8]
  | .bit5E => [0xCB#8, 0x6B#8]
  | .bit5H => [0xCB#8, 0x6C#8]
  | .bit5L => [0xCB#8, 0x6D#8]
  | .bit5AtHl => [0xCB#8, 0x6E#8]
  | .bit5A => [0xCB#8, 0x6F#8]
  | .bit6B => [0xCB#8, 0x70#8]
  | .bit6C => [0xCB#8, 0x71#8]
  | .bit6D => [0xCB#8, 0x72#8]
  | .bit6E => [0xCB#8, 0x73#8]
  | .bit6H => [0xCB#8, 0x74#8]
  | .bit6L => [0xCB#8, 0x75#8]
  | .bit6AtHl => [0xCB#8, 0x76#8]
  | .bit6A => [0xCB#8, 0x77#8]
  | .bit7B => [0xCB#8, 0x78#8]
  | .bit7C => [0xCB#8, 0x79#8]
  | .bit7D => [0xCB#8, 0x7A#8]
  | .bit7E => [0xCB#8, 0x7B#8]
  | .bit7H => [0xCB#8, 0x7C#8]
  | .bit7L => [0xCB#8, 0x7D#8]
  | .bit7AtHl => [0xCB#8, 0x7E#8]
  | .bit7A => [0xCB#8, 0x7F#8]
  | .res0B => [0xCB#8, 0x80#8]
  | .res0C => [0xCB#8, 0x81#8]
  | .res0D => [0xCB#8, 0x82#8]
  | .res0E => [0xCB#8, 0x83#8]
  | .res0H => [0xCB#8, 0x84#8]
  | .res0L => [0xCB#8, 0x85#8]
  | .res0AtHl => [0xCB#8, 0x86#8]
  | .res0A => [0xCB#8, 0x87#8]
  | .res1B => [0xCB#8, 0x88#8]
  | .res1C => [0xCB#8, 0x89#8]
  | .res1D => [0xCB#8, 0x8A#8]
  | .res1E => [0xCB#8, 0x8B#8]
  | .res1H => [0xCB#8, 0x8C#8]
  | .res1L => [0xCB#8, 0x8D#8]
  | .res1AtHl => [0xCB#8, 0x8E#8]
  | .res1A => [0xCB#8, 0x8F#8]
  | .res2B => [0xCB#8, 0x90#8]
  | .res2C => [0xCB#8, 0x91#8]
  | .res2D => [0xCB#8, 0x92#8]
  | .res2E => [0xCB#8, 0x93#8]
  | .res2H => [0xCB#8, 0x94#8]
  | .res2L => [0xCB#8, 0x95#8]
  | .res2AtHl => [0xCB#8, 0x96#8]
  | .res2A => [0xCB#8, 0x97#8]
  | .res3B => [0xCB#8, 0x98#8]
  | .res3C => [0xCB#8, 0x99#8]
  | .res3D => [0xCB#8, 0x9A#8]
  | .res3E => [0xCB#8, 0x9B#8]
  | .res3H => [0xCB#8, 0x9C#8]
  | .res3L => [0xCB#8, 0x9D#8]
  | .res3AtHl => [0xCB#8, 0x9E#8]
  | .res3A => [0xCB#8, 0x9F#8]
  | .res4B => [0xCB#8, 0xA0#8]
  | .res4C => [0xCB#8, 0xA1#8]
  | .res4D => [0xCB#8, 0xA2#8]
  | .res4E => [0xCB#8, 0xA3#8]
  | .res4H => [0xCB#8, 0xA4#8]
  | .res4L => [0xCB#8, 0xA5#8]
  | .res4AtHl => [0xCB#8, 0xA6#8]
  | .res4A => [0xCB#8, 0xA7#8]
  | .res5B => [0xCB#8, 0xA8#8]
  | .res5C => [0xCB#8, 0xA9#8]
  | .res5D => [0xCB#8, 0xAA#8]
  | .res5E => [0xCB#8, 0xAB#8]
  | .res5H => [0xCB#8, 0xAC#8]
  | .res5L => [0xCB#8, 0xAD#8]
  | .res5AtHl => [0xCB#8, 0xAE#8]
  | .res5A => [0xCB#8, 0xAF#8]
  | .res6B => [0xCB#8, 0xB0#8]
  | .res6C => [0xCB#8, 0xB1#8]
  | .res6D => [0xCB#8, 0xB2#8]
  | .res6E => [0xCB#8, 0xB3#8]
  | .res6H => [0xCB#8, 0xB4#8]
  | .res6L => [0xCB#8, 0xB5#8]
  | .res6AtHl => [0xCB#8, 0xB6#8]
  | .res6A => [0xCB#8, 0xB7#8]
  | .res7B => [0xCB#8, 0xB8#8]
  | .res7C => [0xCB#8, 0xB9#8]
  | .res7D => [0xCB#8, 0xBA#8]
  | .res7E => [0xCB#8, 0xBB#8]
  | .res7H => [0xCB#8, 0xBC#8]
  | .res7L => [0xCB#8, 0xBD#8]
  | .res7AtHl => [0xCB#8, 0xBE#8]
  | .res7A => [0xCB#8, 0xBF#8]
  | .set0B => [0xCB#8, 0xC0#8]
  | .set0C => [0xCB#8, 0xC1#8]
  | .set0D => [0xCB#8, 0xC2#8]
  | .set0E => [0xCB#8, 0xC3#8]
  | .set0H => [0xCB#8, 0xC4#8]
  | .set0L => [0xCB#8, 0xC5#8]
  | .set0AtHl => [0xCB#8, 0xC6#8]
  | .set0A => [0xCB#8, 0xC7#8]
  | .set1B => [0xCB#8, 0xC8#8]
  | .set1C => [0xCB#8, 0xC9#8]
  | .set1D => [0xCB#8, 0xCA#8]
  | .set1E => [0xCB#8, 0xCB#8]
  | .set1H => [0xCB#8, 0xCC#8]
  | .set1L => [0xCB#8, 0xCD#8]
  | .set1AtHl => [0xCB#8, 0xCE#8]
  | .set1A => [0xCB#8, 0xCF#8]
  | .set2B => [0xCB#8, 0xD0#8]
  | .set2C => [0xCB#8, 0xD1#8]
  | .set2D => [0xCB#8, 0xD2#8]
  | .set2E => [0xCB#8, 0xD3#8]
  | .set2H => [0xCB#8, 0xD4#8]
  | .set2L => [0xCB#8, 0xD5#8]
  | .set2AtHl => [0xCB#8, 0xD6#8]
  | .set2A => [0xCB#8, 0xD7#8]
  | .set3B => [0xCB#8, 0xD8#8]
  | .set3C => [0xCB#8, 0xD9#8]
  | .set3D => [0xCB#8, 0xDA#8]
  | .set3E => [0xCB#8, 0xDB#8]
  | .set3H => [0xCB#8, 0xDC#8]
  | .set3L => [0xCB#8, 0xDD#8]
  | .set3AtHl => [0xCB#8, 0xDE#8]
  | .set3A => [0xCB#8, 0xDF#8]
  | .set4B => [0xCB#8, 0xE0#8]
  | .set4C => [0xCB#8, 0xE1#8]
  | .set4D => [0xCB#8, 0xE2#8]
  | .set4E => [0xCB#8, 0xE3#8]
  | .set4H => [0xCB#8, 0xE4#8]
  | .set4L => [0xCB#8, 0xE5#8]
  | .set4AtHl => [0xCB#8, 0xE6#8]
  | .set4A => [0xCB#8, 0xE7#8]
  | .set5B => [0xCB#8, 0xE8#8]
  | .set5C => [0xCB#8, 0xE9#8]
  | .set5D => [0xCB#8, 0xEA#8]
  | .set5E => [0xCB#8, 0xEB#8]
  | .set5H => [0xCB#8, 0xEC#8]
  | .set5L => [0xCB#8, 0xED#8]
  | .set5AtHl => [0xCB#8, 0xEE#8]
  | .set5A => [0xCB#8, 0xEF#8]
  | .set6B => [0xCB#8, 0xF0#8]
  | .set6C => [0xCB#8, 0xF1#8]
  | .set6D => [0xCB#8, 0xF2#8]
  | .set6E => [0xCB#8, 0xF3#8]
  | .set6H => [0xCB#8, 0xF4#8]
  | .set6L => [0xCB#8, 0xF5#8]
  | .set6AtHl => [0xCB#8, 0xF6#8]
  | .set6A => [0xCB#8, 0xF7#8]
  | .set7B => [0xCB#8, 0xF8#8]
  | .set7C => [0xCB#8, 0xF9#8]
  | .set7D => [0xCB#8, 0xFA#8]
  | .set7E => [0xCB#8, 0xFB#8]
  | .set7H => [0xCB#8, 0xFC#8]
  | .set7L => [0xCB#8, 0xFD#8]
  | .set7AtHl => [0xCB#8, 0xFE#8]
  | .set7A => [0xCB#8, 0xFF#8]

/-- The number of bytes of an instruction (R80). -/
def Instr.length (i : Instr) : Nat := (encode i).length

/-! ## The host's view -/

/-- The bytes of a table word, as the hardware stores them. spec/opcode_table.json writes an extended row as one 16-bit
number with the escape byte 0xCB in bits 15..8 and its key in bits 7..0, so such a number's first byte is its upper one;
every other number has its first byte in bits 7..0 and the later bytes above it. The bytes above `nbits` are zero, up to
the longest instruction's three. -/
def tableWordBytes (nbits w : Nat) : List Byte :=
  let w := w % 2 ^ nbits
  if nbits = 16 ∧ w / 256 = 0xCB then [0xCB#8, BitVec.ofNat 8 w, 0#8]
  else [BitVec.ofNat 8 w, BitVec.ofNat 8 (w / 256), BitVec.ofNat 8 (w / 65536)]

/-- The instruction the decoder reads from a table word. -/
def decodeTableWord (nbits w : Nat) : Option Instr :=
  match decode (tableWordBytes nbits w) with
  | .ok (i, _) => some i
  | .error _ => none

end Sys2Proof
end

