-- ==== Sys2Proof/Machine/Cost.lean ====
section
/-! DEFINITION. The default values of the parameters IMPL and COST (spec/92_eei_decisions.md D2, D3): every opcode but the eleven
illegal ones has an entry, and an entry costs what spec/70_reset_and_hazards.md R366 and spec/opcode_table.json say. -/

namespace Sys2Proof

/-- The base costs of the primary opcodes, sixteen a row as in the map of spec/30_encoding.md (R366). The illegal opcodes and
the escape have no cost (R367); their 0 is never charged. -/
def primaryBaseCosts : List (List Nat) :=
  [[ 4, 12,  8,  8,  4,  4,  8,  4, 20,  8,  8,  8,  4,  4,  8,  4],
   [ 4, 12,  8,  8,  4,  4,  8,  4, 12,  8,  8,  8,  4,  4,  8,  4],
   [12, 12,  8,  8,  4,  4,  8,  4, 12,  8,  8,  8,  4,  4,  8,  4],
   [12, 12,  8,  8, 12, 12, 12,  4, 12,  8,  8,  8,  4,  4,  8,  4]] ++
  [[ 4,  4,  4,  4,  4,  4,  8,  4,  4,  4,  4,  4,  4,  4,  8,  4],
   [ 4,  4,  4,  4,  4,  4,  8,  4,  4,  4,  4,  4,  4,  4,  8,  4],
   [ 4,  4,  4,  4,  4,  4,  8,  4,  4,  4,  4,  4,  4,  4,  8,  4],
   [ 8,  8,  8,  8,  8,  8,  4,  8,  4,  4,  4,  4,  4,  4,  8,  4]] ++
  [[ 4,  4,  4,  4,  4,  4,  8,  4,  4,  4,  4,  4,  4,  4,  8,  4],
   [ 4,  4,  4,  4,  4,  4,  8,  4,  4,  4,  4,  4,  4,  4,  8,  4],
   [ 4,  4,  4,  4,  4,  4,  8,  4,  4,  4,  4,  4,  4,  4,  8,  4],
   [ 4,  4,  4,  4,  4,  4,  8,  4,  4,  4,  4,  4,  4,  4,  8,  4]] ++
  [[20, 12, 16, 16, 24, 16,  8, 16, 20, 16, 16,  0, 24, 24,  8, 16],
   [20, 12, 16,  0, 24, 16,  8, 16, 20, 16, 16,  0, 24,  0,  8, 16],
   [12, 12,  8,  0,  0, 16,  8, 16, 16,  4, 16,  0,  0,  0,  8, 16],
   [12, 12,  8,  4,  0, 16,  8, 16, 12,  8, 16,  4,  0,  0,  8, 16]]

/-- The reduced cost where it differs from the base cost: the four conditional families (R366). -/
def primaryReducedCost (op : Byte) (base : Nat) : Nat :=
  if op ∈ [0xC2#8, 0xCA#8, 0xD2#8, 0xDA#8] then 12  -- JP cc (R211)
  else if op ∈ [0x20#8, 0x28#8, 0x30#8, 0x38#8] then 8  -- JR cc (R214)
  else if op ∈ [0xC4#8, 0xCC#8, 0xD4#8, 0xDC#8] then 12  -- CALL cc (R216)
  else if op ∈ [0xC0#8, 0xC8#8, 0xD0#8, 0xD8#8] then 8  -- RET cc (R218)
  else base

/-- The cost of an extended opcode, the escape included (R366, R367): 16 for a (HL) form, 12 if it is BIT's, 8 for a register
form. -/
def extendedCost (key : Byte) : Nat :=
  if fieldZ key = 6#3 then (if fieldX key = 1#2 then 12 else 16) else 8

/-- COST (R366). -/
def defaultCost (escaped : Bool) (key : Byte) : CostPair :=
  if escaped then ⟨BitVec.ofNat 8 (extendedCost key), BitVec.ofNat 8 (extendedCost key)⟩
  else
    let base := (primaryBaseCosts.getD (key.toNat / 16) []).getD (key.toNat % 16) 0
    ⟨BitVec.ofNat 8 base, BitVec.ofNat 8 (primaryReducedCost key base)⟩

/-- IMPL: every defined opcode; the eleven holes are never in it (D2). -/
def defaultImpl (escaped : Bool) (key : Byte) : Bool :=
  escaped ||
    match primary key with
    | .plain i => i.wellFormed
    | _ => true

/-- The configuration a host that supplies neither parameter gets. -/
def Config.standard : Config := ⟨defaultImpl, defaultCost⟩

end Sys2Proof
end

