-- ==== Sys2Proof/Machine/State.lean ====
section
/-! DEFINITION. The machine's state as plain data: every field of spec/10_state.md, the two fatal conditions of
spec/60_exceptions.md R300, and the state right after reset (spec/70_reset_and_hazards.md R350). -/

namespace Sys2Proof.Machine

/-- The kind of access that raised `InvalidMemoryAccess` (spec/60_exceptions.md R300). -/
inductive AccessKind
  | fetch | read | write
  deriving DecidableEq, Repr

/-- The two fatal conditions and the values they record (spec/10_state.md R29, spec/60_exceptions.md R300). -/
inductive FatalCondition
  /-- The byte looked up has no table entry: whether the escape was read, the byte, the address it was fetched from and
  the address of the instruction's first byte. -/
  | unimplementedInstruction (prefixed : Bool) (opcode : Byte) (opAddr instrAddr : Word)
  /-- An access reached an address that routes nowhere. -/
  | invalidMemoryAccess (addr : Word) (kind : AccessKind)
  deriving DecidableEq, Repr

/-- The Display Unit's mode (spec/10_state.md R33). -/
inductive Mode
  | hBlank | vBlank | oamScan | vramRead
  deriving DecidableEq, Repr

/-- An output event of a step (spec/10_state.md R42, spec/70_reset_and_hazards.md R357). -/
inductive Event
  | frameReady
  deriving DecidableEq, Repr

/-- The four flags `fZ`, `fN`, `fH`, `fC` (spec/10_state.md R23). -/
structure Flags where
  z : Bool
  n : Bool
  h : Bool
  c : Bool
  deriving DecidableEq, Repr

/-- The bytes of every storage region (spec/10_state.md R31, R32), as cells in the canonical form of `Memory.wf`
(Machine/Ops.lean); a cell's key is `Region.base` plus its index in the region. -/
abbrev Memory := List Host.Cell

/-- A 2-bit shade (spec/10_state.md R41). -/
abbrev Shade := BitVec 2

/-- One framebuffer row, pixel 0 first. -/
abbrev Row := List Shade

/-- The framebuffer (spec/10_state.md R41) by rows, in the canonical form of `Framebuffer.wf` (Machine/Display.lean): a row
that is not listed is all 0. -/
abbrev Framebuffer := List (Nat × Row)

/-- The Display Unit's own state, its VRAM and OAM apart (spec/10_state.md R33 to R42). `LY` has no storage: a read of it
is a read of `scanline` (R39). -/
structure Display where
  mode      : Mode
  scanline  : Nat
  modeClock : Nat
  lcdc      : Byte
  scy       : Byte
  scx       : Byte
  bgp       : Byte
  fb        : Framebuffer
  frames    : Nat
  deriving DecidableEq, Repr

/-- The whole state (spec/10_state.md). -/
structure State where
  /-- The seven general registers (R20). -/
  a : Byte
  b : Byte
  c : Byte
  d : Byte
  e : Byte
  h : Byte
  l : Byte
  /-- The stack pointer (R22). -/
  sp : Word
  /-- The program counter (R25). -/
  pc : Word
  /-- The four flags (R23). -/
  flags : Flags
  /-- The conditional-not-taken flag (R24). -/
  notTaken : Bool
  /-- The coarse and the fine clock (R26). -/
  clkCoarse : Byte
  clkFine   : Byte
  /-- The halted flag (R27). -/
  halted : Bool
  /-- The interrupt master enable (R28). -/
  ime : Bool
  /-- The fault status (R29). -/
  fault : Option FatalCondition
  /-- The boot overlay flag (R30). -/
  bootActive : Bool
  /-- The storage regions BOOT, ROM, VRAM, ERAM, WRAM, OAM and HRAM (R31, R32). -/
  mem : Memory
  /-- The Display Unit (R33 to R42). -/
  display : Display
  /-- The output events of the latest completed step (R42, spec/70_reset_and_hazards.md R357). -/
  events : List Event
  deriving DecidableEq, Repr

/-- What a step can stop with. -/
inductive Fault
  /-- A fatal condition and the state it left (spec/60_exceptions.md R302): raised by the router, by the step's table lookup
  and by the eleven illegal opcodes through `raise` (Machine/Ops.lean), and answered again, unchanged, by every later
  step. Safe: the spec says the core stops here, and the state is the one it names. -/
  | fatal (cond : FatalCondition) (stopped : State)
  deriving DecidableEq, Repr

/-- What the model turns away. -/
inductive Refusal
  /-- The instruction has no meaning in the model. No arm of `exec` answers it. Safe. -/
  | notModelled (mnemonic : String)
  /-- `State.resetWith` (Machine/Reset.lean) was given a cartridge image of more than 32768 bytes
  (spec/70_reset_and_hazards.md R354). Safe: no run starts. -/
  | romImageTooLong (bytes : Nat)
  /-- `State.resetWith` was given a boot image of a length other than 256 (spec/70_reset_and_hazards.md R354). Safe: no run
  starts. -/
  | bootImageNot256 (bytes : Nat)
  deriving DecidableEq, Repr

/-- The Display Unit after reset (spec/70_reset_and_hazards.md R350). -/
def Display.reset : Display where
  mode      := .oamScan
  scanline  := 0
  modeClock := 0
  lcdc      := 0x00#8
  scy       := 0x00#8
  scx       := 0x00#8
  bgp       := 0x00#8
  fb        := []
  frames    := 0

/-- The machine right after a reset without a boot image and with nothing loaded (spec/70_reset_and_hazards.md R350, R352).
The spec leaves A to L, SP and the flags unspecified (INIT_REGS); their zeros here are the model's draw.
DESIGN CHOICE, unsafe (log entry 1). -/
def State.reset : State where
  a := 0x00#8
  b := 0x00#8
  c := 0x00#8
  d := 0x00#8
  e := 0x00#8
  h := 0x00#8
  l := 0x00#8
  sp := 0x0000#16
  pc := 0x0100#16
  flags := ⟨false, false, false, false⟩
  notTaken := false
  clkCoarse := 0x00#8
  clkFine := 0x00#8
  halted := false
  ime := false
  fault := none
  bootActive := false
  mem := []
  display := .reset
  events := []

end Sys2Proof.Machine
end

