-- ==== Sys2Proof/Machine/Flags.lean ====
section
/-! DEFINITION. The flag ALU (spec/40_step_and_dispatch.md R110 to R115) and every other computation that yields flags:
each function returns the result and all four flags. Sums and comparisons are exact, on naturals; the result is narrowed
once. -/

namespace Sys2Proof.Machine

/-- A flag as a number. -/
def bit (b : Bool) : Nat := if b then 1 else 0

/-! ## 8-bit arithmetic and logic -/

/-- `add8(a, b, cin)` (R110). -/
def add8 (a b : Byte) (cin : Bool) : Byte × Flags :=
  let sum := a.toNat + b.toNat + bit cin
  let r := BitVec.ofNat 8 sum
  (r, { z := decide (r = 0#8)
        n := false
        h := decide (a.toNat % 16 + b.toNat % 16 + bit cin > 0xF)
        c := decide (sum > 0xFF) })

/-- `sub8(a, b, bin)` (R111). -/
def sub8 (a b : Byte) (bin : Bool) : Byte × Flags :=
  let r := BitVec.ofInt 8 ((a.toNat : Int) - b.toNat - bit bin)
  (r, { z := decide (r = 0#8)
        n := true
        h := decide (a.toNat % 16 < b.toNat % 16 + bit bin)
        c := decide (a.toNat < b.toNat + bit bin) })

/-- `and8(a, b)` (R112). -/
def and8 (a b : Byte) : Byte × Flags :=
  let r := a &&& b
  (r, { z := decide (r = 0#8), n := false, h := true, c := false })

/-- `or8(a, b)` (R113). -/
def or8 (a b : Byte) : Byte × Flags :=
  let r := a ||| b
  (r, { z := decide (r = 0#8), n := false, h := false, c := false })

/-- `xor8(a, b)` (R113). -/
def xor8 (a b : Byte) : Byte × Flags :=
  let r := a ^^^ b
  (r, { z := decide (r = 0#8), n := false, h := false, c := false })

/-- `inc8(v)`, its full carry included (R114, spec/90_conflicts.md C6). -/
def inc8 (v : Byte) : Byte × Flags := add8 v 1#8 false

/-- `dec8(v)`, its full carry included (R114, spec/90_conflicts.md C6). -/
def dec8 (v : Byte) : Byte × Flags := sub8 v 1#8 false

/-- The eight operations of the `alu` field on A, an operand and the flags (spec/42_alu8.md R160 to R183): CP discards
its result. -/
def aluResult (op : AluOp) (a v : Byte) (f : Flags) : Byte × Flags :=
  match op with
  | .add => add8 a v false
  | .adc => add8 a v f.c
  | .sub => sub8 a v false
  | .sbc => sub8 a v f.c
  | .and => and8 a v
  | .xor => xor8 a v
  | .or  => or8 a v
  | .cp  => (a, (sub8 a v false).2)

/-- DAA (spec/42_alu8.md R188). Bytes suffice: the two adjustments wrap, and neither test looks past the low byte. -/
def daaResult (a : Byte) (f : Flags) : Byte × Flags :=
  if f.n then
    let a1 := if f.c then a - 0x60#8 else a
    let a2 := if f.h then a1 - 0x06#8 else a1
    (a2, { z := decide (a2 = 0#8), n := true, h := false, c := f.c })
  else
    let upper := f.c || decide (a.toNat > 0x99)
    let a1 := if upper then a + 0x60#8 else a
    let a2 := if f.h || decide (a1.toNat % 16 > 0x9) then a1 + 0x06#8 else a1
    (a2, { z := decide (a2 = 0#8), n := false, h := false, c := upper })

/-! ## Rotates, shifts and SWAP (spec/45_cb_prefixed.md R230 to R245) -/

/-- The flags of a rotate or shift of the extended table: fZ from the result, fC the bit shifted out. -/
def shiftFlags (r : Byte) (out : Bool) : Flags := { z := decide (r = 0#8), n := false, h := false, c := out }

/-- RLC (R230). -/
def rlc8 (v : Byte) : Byte × Flags :=
  let r := v <<< 1 ||| (BitVec.ofBool (v.getLsbD 7)).setWidth 8
  (r, shiftFlags r (v.getLsbD 7))

/-- RRC (R232). -/
def rrc8 (v : Byte) : Byte × Flags :=
  let r := v >>> 1 ||| (BitVec.ofBool (v.getLsbD 0)).setWidth 8 <<< 7
  (r, shiftFlags r (v.getLsbD 0))

/-- RL (R234): the old carry enters bit 0. -/
def rl8 (v : Byte) (carry : Bool) : Byte × Flags :=
  let r := v <<< 1 ||| (BitVec.ofBool carry).setWidth 8
  (r, shiftFlags r (v.getLsbD 7))

/-- RR (R236): the old carry enters bit 7. -/
def rr8 (v : Byte) (carry : Bool) : Byte × Flags :=
  let r := v >>> 1 ||| (BitVec.ofBool carry).setWidth 8 <<< 7
  (r, shiftFlags r (v.getLsbD 0))

/-- SLA (R238). -/
def sla8 (v : Byte) : Byte × Flags :=
  let r := v <<< 1
  (r, shiftFlags r (v.getLsbD 7))

/-- SRA (R240): bit 7 is kept. -/
def sra8 (v : Byte) : Byte × Flags :=
  let r := v >>> 1 ||| v &&& 0x80#8
  (r, shiftFlags r (v.getLsbD 0))

/-- SWAP (R242): fC is cleared. -/
def swap8 (v : Byte) : Byte × Flags :=
  let r := (v &&& 0x0F#8) <<< 4 ||| v >>> 4
  (r, shiftFlags r false)

/-- SRL (R244). -/
def srl8 (v : Byte) : Byte × Flags :=
  let r := v >>> 1
  (r, shiftFlags r (v.getLsbD 0))

/-- The eight operations of the `rot` field (spec/30_encoding.md R88). -/
def rotResult (op : RotOp) (v : Byte) (f : Flags) : Byte × Flags :=
  match op with
  | .rlc  => rlc8 v
  | .rrc  => rrc8 v
  | .rl   => rl8 v f.c
  | .rr   => rr8 v f.c
  | .sla  => sla8 v
  | .sra  => sra8 v
  | .swap => swap8 v
  | .srl  => srl8 v

/-- The accumulator rotates RLCA, RRCA, RLA and RRA are those of the extended table with fZ forced to 0
(spec/42_alu8.md R192 to R195). -/
def clearZ (r : Byte × Flags) : Byte × Flags := (r.1, { r.2 with z := false })

/-- BIT b (spec/45_cb_prefixed.md R246): fZ is the complement of the bit, fC is kept. -/
def testBitFlags (n : Nat) (v : Byte) (f : Flags) : Flags := { f with z := !v.getLsbD n, n := false, h := true }

/-- RES b (spec/45_cb_prefixed.md R248). -/
def clearBit (n : Nat) (v : Byte) : Byte := v &&& ~~~(1#8 <<< n)

/-- SET b (spec/45_cb_prefixed.md R250). -/
def assertBit (n : Nat) (v : Byte) : Byte := v ||| 1#8 <<< n

/-! ## 16-bit arithmetic (spec/43_alu16.md) -/

/-- ADD HL,rr (R200): carries out of bits 11 and 15; fZ is kept. -/
def addHlResult (a b : Word) (f : Flags) : Word × Flags :=
  let sum := a.toNat + b.toNat
  (BitVec.ofNat 16 sum,
   { z := f.z
     n := false
     h := decide (a.toNat % 0x1000 + b.toNat % 0x1000 > 0x0FFF)
     c := decide (sum > 0xFFFF) })

/-- `SP + e8` (R203, R204): the sum is of the signed offset, the carries of its raw byte added to the low byte of SP. -/
def addSpResult (sp : Word) (u : Byte) : Word × Flags :=
  (BitVec.ofInt 16 ((sp.toNat : Int) + u.toInt),
   { z := false
     n := false
     h := decide (sp.toNat % 0x10 + u.toNat % 0x10 > 0x0F)
     c := decide (sp.toNat % 0x100 + u.toNat > 0xFF) })

end Sys2Proof.Machine
end

