-- ==== Sys2Proof/Machine/Ops.lean ====
section
/-! DEFINITION. The operations over memory and registers that every meaning shares: the cells of a sparse list, the Address
Router (spec/20_memory.md), raising a fatal condition (spec/60_exceptions.md R302), register pairs and the stack
(spec/40_step_and_dispatch.md R105 to R109). -/

namespace Sys2Proof.Machine

/-- What a meaning and a step answer. -/
abbrev Out := Host.Outcome State Fault Refusal

/-! ## Sparse lists: keys strictly rising, no entry equal to what an unlisted key reads as -/

/-- The value at a key; an unlisted key reads as `dflt`. -/
def Sparse.get {β : Type} (dflt : β) : List (Nat × β) → Nat → β
  | [], _ => dflt
  | (k, v) :: m, key => if k = key then v else Sparse.get dflt m key

/-- The list after `v` is written at a key; writing `dflt` removes the entry. -/
def Sparse.set {β : Type} [DecidableEq β] (dflt : β) : List (Nat × β) → Nat → β → List (Nat × β)
  | [], key, v => if v = dflt then [] else [(key, v)]
  | (k, w) :: m, key, v =>
    if key < k then (if v = dflt then (k, w) :: m else (key, v) :: (k, w) :: m)
    else if key = k then (if v = dflt then m else (key, v) :: m)
    else (k, w) :: Sparse.set dflt m key v

/-- Every key of the list is above `key`. -/
def Sparse.above {β : Type} (key : Nat) (m : List (Nat × β)) : Bool := m.all fun cell => key < cell.1

/-- The canonical form. -/
def Sparse.wf {β : Type} [DecidableEq β] (dflt : β) : List (Nat × β) → Bool
  | [] => true
  | (k, v) :: m => Sparse.above k m && decide (v ≠ dflt) && Sparse.wf dflt m

/-! ## The Address Router (spec/20_memory.md R51 to R58) -/

/-- The storage regions (spec/10_state.md R31, R32). -/
inductive Region
  | boot | rom | vram | eram | wram | oam | hram
  deriving DecidableEq, Repr

/-- The Display Unit's five registers (R56). -/
inductive DisplayReg
  | lcdc | scy | scx | ly | bgp
  deriving DecidableEq, Repr

/-- Where an address leads (R51): a byte of a region, a display register, or nowhere. -/
inductive Dest
  | storage (r : Region) (index : Nat)
  | register (r : DisplayReg)
  | unmapped
  deriving DecidableEq, Repr

/-- The key of a region's first byte in `State.mem`: its lowest address, but for BOOT, which the memory map lays over ROM and
the model keeps above the address space. DESIGN CHOICE, safe (log entry 3). -/
def Region.base : Region → Nat
  | .boot => 0x10000
  | .rom  => 0x0000
  | .vram => 0x8000
  | .eram => 0xA000
  | .wram => 0xC000
  | .oam  => 0xFE00
  | .hram => 0xFF80

/-- The number of bytes of a region (spec/10_state.md R31, R32). -/
def Region.size : Region → Nat
  | .boot => 256
  | .rom  => 32768
  | .vram => 8192
  | .eram => 8192
  | .wram => 8192
  | .oam  => 160
  | .hram => 128

/-- The register window 0xFF00-0xFF7F recognises five addresses (R56); every other is unmapped (R58). -/
def windowDest (addr : Nat) : Dest :=
  if addr = 0xFF40 then .register .lcdc
  else if addr = 0xFF42 then .register .scy
  else if addr = 0xFF43 then .register .scx
  else if addr = 0xFF44 then .register .ly
  else if addr = 0xFF47 then .register .bgp
  else .unmapped

/-- `route(addr)`, the rows of R51 in their order. -/
def route (bootActive : Bool) (addr : Word) : Dest :=
  let a := addr.toNat
  if a ≤ 0x00FF ∧ bootActive = true then .storage .boot a
  else if a ≤ 0x7FFF then .storage .rom a
  else if a ≤ 0x9FFF then .storage .vram (a - 0x8000)
  else if a ≤ 0xBFFF then .storage .eram (a - 0xA000)
  else if a ≤ 0xDFFF then .storage .wram (a - 0xC000)
  else if a ≤ 0xFDFF then .storage .wram (a - 0xE000)
  else if a ≤ 0xFE9F then .storage .oam (a - 0xFE00)
  else if a ≤ 0xFEFF then .unmapped
  else if a ≤ 0xFF7F then windowDest a
  else .storage .hram (a - 0xFF80)

/-- The byte with a key in `State.mem`; a byte nothing has written reads as `Config.initByte`. -/
def Memory.read (m : Memory) (key : Nat) : Byte := Sparse.get Config.initByte m key

/-- Memory after a byte is stored. -/
def Memory.write (m : Memory) (key : Nat) (v : Byte) : Memory := Sparse.set Config.initByte m key v

/-- The key belongs to a region. -/
def Memory.isKey (key : Nat) : Bool :=
  key < 0xE000 || (0xFE00 ≤ key && key < 0xFEA0) || (0xFF80 ≤ key && key < 0x10100)

/-- The canonical form of memory: keys strictly rising, no cell that reads as an unlisted byte, every key in a region. -/
def Memory.wf (m : Memory) : Bool := Sparse.wf Config.initByte m && m.all fun cell => Memory.isKey cell.1

/-- A display register as a program reads it (R56); `LY` is the scanline (spec/10_state.md R39). -/
def Display.readReg (d : Display) : DisplayReg → Byte
  | .lcdc => d.lcdc
  | .scy  => d.scy
  | .scx  => d.scx
  | .ly   => BitVec.ofNat 8 d.scanline
  | .bgp  => d.bgp

/-- A program's write of a display register (R56); a write of `LY` is discarded (spec/10_state.md R39). -/
def Display.writeReg (d : Display) : DisplayReg → Byte → Display
  | .lcdc, v => { d with lcdc := v }
  | .scy, v  => { d with scy := v }
  | .scx, v  => { d with scx := v }
  | .ly, _   => d
  | .bgp, v  => { d with bgp := v }

/-- What `read_byte(addr)` returns, or `none` where the address is unmapped (R54). -/
def State.peek (s : State) (addr : Word) : Option Byte :=
  match route s.bootActive addr with
  | .storage r i => some (s.mem.read (r.base + i))
  | .register r  => some (s.display.readReg r)
  | .unmapped    => none

/-- The state `write_byte(addr, v)` leaves, or `none` where the address is unmapped (R57). -/
def State.poke (s : State) (addr : Word) (v : Byte) : Option State :=
  match route s.bootActive addr with
  | .storage r i => some { s with mem := s.mem.write (r.base + i) v }
  | .register r  => some { s with display := s.display.writeReg r v }
  | .unmapped    => none

/-! ## Raising a fatal condition (spec/60_exceptions.md R302)

There is no return from one (R307): `raise` has no counterpart, and RETI is an ordinary return. -/

/-- `raise c`: the step stops here, everything done before stands, the fault status records the condition. No register is
saved and control goes nowhere (R306). -/
def raise (c : FatalCondition) (s : State) : Out := .fault (.fatal c { s with fault := some c })

/-! ## Byte and word accesses (spec/00_scope.md R13, spec/20_memory.md R54 to R61)

An access takes what to do next as its last argument: nothing after a faulting access happens
(spec/40_step_and_dispatch.md R120). -/

/-- `MemRead(addr, 1)`. -/
def readByte (kind : AccessKind) (addr : Word) (s : State) (next : Byte → Out) : Out :=
  match s.peek addr with
  | some v => next v
  | none   => raise (.invalidMemoryAccess addr kind) s

/-- `MemWrite(addr, 1, v)`. -/
def writeByte (addr : Word) (v : Byte) (s : State) (next : State → Out) : Out :=
  match s.poke addr v with
  | some s' => next s'
  | none    => raise (.invalidMemoryAccess addr .write) s

/-- `MemRead(addr, 2)` (R60): the low byte first; `addr + 1` wraps. -/
def readWord (addr : Word) (s : State) (next : Word → Out) : Out :=
  readByte .read addr s fun lo => readByte .read (addr + 1) s fun hi => next (joinBytes hi lo)

/-- `MemWrite(addr, 2, v)` (R60, R61): the low byte first, and it stays written if the high one faults. -/
def writeWord (addr : Word) (v : Word) (s : State) (next : State → Out) : Out :=
  writeByte addr (lowByte v) s fun s' => writeByte (addr + 1) (highByte v) s' next

/-! ## Register pairs (spec/40_step_and_dispatch.md R105, R106) -/

/-- BC = B : C. -/
def State.bc (s : State) : Word := joinBytes s.b s.c

/-- DE = D : E. -/
def State.de (s : State) : Word := joinBytes s.d s.e

/-- HL = H : L. -/
def State.hl (s : State) : Word := joinBytes s.h s.l

/-- A write of BC splits into its halves. -/
def State.setBc (s : State) (v : Word) : State := { s with b := highByte v, c := lowByte v }

/-- A write of DE splits into its halves. -/
def State.setDe (s : State) (v : Word) : State := { s with d := highByte v, e := lowByte v }

/-- A write of HL splits into its halves. -/
def State.setHl (s : State) (v : Word) : State := { s with h := highByte v, l := lowByte v }

/-! ## The stack (spec/40_step_and_dispatch.md R108, R109) -/

/-- `push(v)`: high byte at `SP - 1`, low byte at `SP - 2`; SP moves before each write. -/
def push (v : Word) (s : State) (next : State → Out) : Out :=
  let s := { s with sp := s.sp - 1 }
  writeByte s.sp (highByte v) s fun s =>
    let s := { s with sp := s.sp - 1 }
    writeByte s.sp (lowByte v) s next

/-- `pop()`: low byte, then high byte; SP moves after each read. -/
def pop (s : State) (next : Word → State → Out) : Out :=
  readByte .read s.sp s fun lo =>
    let s := { s with sp := s.sp + 1 }
    readByte .read s.sp s fun hi => next (joinBytes hi lo) { s with sp := s.sp + 1 }

end Sys2Proof.Machine
end

