-- ==== Sys2Proof/Machine/Operands.lean ====
section
/-! DEFINITION. The operand forms: `r8`, `rp`, `rp2`, `cond`, the flag byte, the high page and signed offsets
(spec/30_encoding.md R83 to R89, spec/40_step_and_dispatch.md R116, R118). -/

namespace Sys2Proof.Machine

/-! ## `r8` -/

/-- `getR8` (R118): the named register, or what a read of the byte at HL returns (`none` where it faults). -/
def State.r8 (s : State) : R8 → Option Byte
  | .b => some s.b
  | .c => some s.c
  | .d => some s.d
  | .e => some s.e
  | .h => some s.h
  | .l => some s.l
  | .atHl => s.peek s.hl
  | .a => some s.a

/-- `setR8` (R118): the named register written, or the byte at HL stored (`none` where it faults). -/
def State.setR8 (s : State) : R8 → Byte → Option State
  | .b, v => some { s with b := v }
  | .c, v => some { s with c := v }
  | .d, v => some { s with d := v }
  | .e, v => some { s with e := v }
  | .h, v => some { s with h := v }
  | .l, v => some { s with l := v }
  | .atHl, v => s.poke s.hl v
  | .a, v => some { s with a := v }

/-- Read an `r8` operand and go on. Only the `(HL)` form can fault. -/
def readR8 (z : R8) (s : State) (next : Byte → Out) : Out :=
  match s.r8 z with
  | some v => next v
  | none   => raise (.invalidMemoryAccess s.hl .read) s

/-- Write an `r8` operand and go on. Only the `(HL)` form can fault. -/
def writeR8 (z : R8) (v : Byte) (s : State) (next : State → Out) : Out :=
  match s.setR8 z v with
  | some s' => next s'
  | none    => raise (.invalidMemoryAccess s.hl .write) s

/-- Read, compute, write the flags, write the result: the order of every read-modify-write handler (R118;
spec/42_alu8.md R185, spec/45_cb_prefixed.md). -/
def modifyR8 (f : Byte → Flags → Byte × Flags) (z : R8) (s : State) : Out :=
  readR8 z s fun v =>
    let r := f v s.flags
    writeR8 z r.1 { s with flags := r.2 } .next

/-! ## `rp`, `rp2` and the flag byte -/

/-- `rp(i)` read (R84, R105). -/
def State.rp (s : State) : Rp → Word
  | .bc => s.bc
  | .de => s.de
  | .hl => s.hl
  | .sp => s.sp

/-- `rp(i)` written (R84, R106). -/
def State.setRp (s : State) : Rp → Word → State
  | .bc, v => s.setBc v
  | .de, v => s.setDe v
  | .hl, v => s.setHl v
  | .sp, v => { s with sp := v }

/-- The flag byte `F`: Z, N, H, C in bits 7 to 4, bits 3:0 zero (spec/10_state.md R23). -/
def Flags.toByte (f : Flags) : Byte :=
  (BitVec.ofBool f.z).setWidth 8 <<< 7 ||| (BitVec.ofBool f.n).setWidth 8 <<< 6 |||
    (BitVec.ofBool f.h).setWidth 8 <<< 5 ||| (BitVec.ofBool f.c).setWidth 8 <<< 4

/-- The flags of a byte: bits 7 to 4; bits 3:0 are discarded (spec/10_state.md R23). -/
def Flags.ofByte (v : Byte) : Flags := ⟨v.getLsbD 7, v.getLsbD 6, v.getLsbD 5, v.getLsbD 4⟩

/-- `rp2(i)` read (R85): AF is A above the flag byte. -/
def State.rp2 (s : State) : Rp2 → Word
  | .bc => s.bc
  | .de => s.de
  | .hl => s.hl
  | .af => joinBytes s.a s.flags.toByte

/-- `rp2(i)` written (R85): AF writes A and all four flags. -/
def State.setRp2 (s : State) : Rp2 → Word → State
  | .bc, v => s.setBc v
  | .de, v => s.setDe v
  | .hl, v => s.setHl v
  | .af, v => { s with a := highByte v, flags := .ofByte (lowByte v) }

/-! ## Conditions, the high page, signed offsets -/

/-- `holds(i)` (R86, R116). -/
def State.holds (s : State) : Cond → Bool
  | .nz => !s.flags.z
  | .z  => s.flags.z
  | .nc => !s.flags.c
  | .c  => s.flags.c

/-- The high-page address `0xFF00 + n` (R89). -/
def highPage (n : Byte) : Word := joinBytes 0xFF#8 n

/-- `sext_8(u)` as a word, so that adding it wraps modulo 65536 (spec/00_scope.md R11). -/
def sext8 (u : Byte) : Word := u.signExtend 16

end Sys2Proof.Machine
end

