-- ==== Sys2Proof/Machine/Alu16.lean ====
section
/-! DEFINITION. 16-bit arithmetic (spec/43_alu16.md). -/

namespace Sys2Proof.Machine

/-- ADD HL,rr. -/
def addHl (p : Rp) (s : State) : Out :=
  let r := addHlResult s.hl (s.rp p) s.flags
  .next { s.setHl r.1 with flags := r.2 }

/-- ADD HL,BC (R200). -/
def execAddHlBc (s : State) : Out := addHl .bc s

/-- ADD HL,DE (R200). -/
def execAddHlDe (s : State) : Out := addHl .de s

/-- ADD HL,HL (R200). -/
def execAddHlHl (s : State) : Out := addHl .hl s

/-- ADD HL,SP (R200). -/
def execAddHlSp (s : State) : Out := addHl .sp s

/-- INC BC (R201). -/
def execIncBc (s : State) : Out := .next (s.setRp .bc (s.rp .bc + 1))

/-- INC DE (R201). -/
def execIncDe (s : State) : Out := .next (s.setRp .de (s.rp .de + 1))

/-- INC HL (R201). -/
def execIncHl (s : State) : Out := .next (s.setRp .hl (s.rp .hl + 1))

/-- INC SP (R201). -/
def execIncSp (s : State) : Out := .next (s.setRp .sp (s.rp .sp + 1))

/-- DEC BC (R202). -/
def execDecBc (s : State) : Out := .next (s.setRp .bc (s.rp .bc - 1))

/-- DEC DE (R202). -/
def execDecDe (s : State) : Out := .next (s.setRp .de (s.rp .de - 1))

/-- DEC HL (R202). -/
def execDecHl (s : State) : Out := .next (s.setRp .hl (s.rp .hl - 1))

/-- DEC SP (R202). -/
def execDecSp (s : State) : Out := .next (s.setRp .sp (s.rp .sp - 1))

/-- ADD SP,e8 (R203). -/
def execAddSpE8 (e : Byte) (s : State) : Out := let r := addSpResult s.sp e
  .next { s with sp := r.1, flags := r.2 }

/-- LD HL,SP+e8 (R204). -/
def execLdHlSpE8 (e : Byte) (s : State) : Out := let r := addSpResult s.sp e
  .next { s.setHl r.1 with flags := r.2 }

end Sys2Proof.Machine
end

