-- ==== Sys2Proof/Machine/Alu8.lean ====
section
/-! DEFINITION. 8-bit arithmetic and logic (spec/42_alu8.md). -/

namespace Sys2Proof.Machine

/-- A and the flags take a result of the `alu` field. -/
def aluWith (op : AluOp) (v : Byte) (s : State) : State :=
  let r := aluResult op s.a v s.flags
  { s with a := r.1, flags := r.2 }

/-- alu A,r8. -/
def aluR8 (op : AluOp) (z : R8) (s : State) : Out := readR8 z s fun v => .next (aluWith op v s)

/-- alu A,d8. -/
def aluImm (op : AluOp) (v : Byte) (s : State) : Out := .next (aluWith op v s)

/-- INC of an `r8` operand: all four flags are written (spec/90_conflicts.md C6). -/
def incR8 (z : R8) (s : State) : Out := modifyR8 (fun v _ => inc8 v) z s

/-- DEC of an `r8` operand: all four flags are written (spec/90_conflicts.md C6). -/
def decR8 (z : R8) (s : State) : Out := modifyR8 (fun v _ => dec8 v) z s

/-- A and the flags take a result computed from them. -/
def accumulator (r : Byte × Flags) (s : State) : Out := .next { s with a := r.1, flags := r.2 }

/-- ADD A,B (R160). -/
def execAddAB (s : State) : Out := aluR8 .add .b s

/-- ADD A,C (R160). -/
def execAddAC (s : State) : Out := aluR8 .add .c s

/-- ADD A,D (R160). -/
def execAddAD (s : State) : Out := aluR8 .add .d s

/-- ADD A,E (R160). -/
def execAddAE (s : State) : Out := aluR8 .add .e s

/-- ADD A,H (R160). -/
def execAddAH (s : State) : Out := aluR8 .add .h s

/-- ADD A,L (R160). -/
def execAddAL (s : State) : Out := aluR8 .add .l s

/-- ADD A,A (R160). -/
def execAddAA (s : State) : Out := aluR8 .add .a s

/-- ADD A,(HL) (R161). -/
def execAddAAtHl (s : State) : Out := aluR8 .add .atHl s

/-- ADD A,d8 (R162). -/
def execAddAD8 (v : Byte) (s : State) : Out := aluImm .add v s

/-- ADC A,B (R163). -/
def execAdcAB (s : State) : Out := aluR8 .adc .b s

/-- ADC A,C (R163). -/
def execAdcAC (s : State) : Out := aluR8 .adc .c s

/-- ADC A,D (R163). -/
def execAdcAD (s : State) : Out := aluR8 .adc .d s

/-- ADC A,E (R163). -/
def execAdcAE (s : State) : Out := aluR8 .adc .e s

/-- ADC A,H (R163). -/
def execAdcAH (s : State) : Out := aluR8 .adc .h s

/-- ADC A,L (R163). -/
def execAdcAL (s : State) : Out := aluR8 .adc .l s

/-- ADC A,A (R163). -/
def execAdcAA (s : State) : Out := aluR8 .adc .a s

/-- ADC A,(HL) (R164). -/
def execAdcAAtHl (s : State) : Out := aluR8 .adc .atHl s

/-- ADC A,d8 (R165). -/
def execAdcAD8 (v : Byte) (s : State) : Out := aluImm .adc v s

/-- SUB B (R166). -/
def execSubB (s : State) : Out := aluR8 .sub .b s

/-- SUB C (R166). -/
def execSubC (s : State) : Out := aluR8 .sub .c s

/-- SUB D (R166). -/
def execSubD (s : State) : Out := aluR8 .sub .d s

/-- SUB E (R166). -/
def execSubE (s : State) : Out := aluR8 .sub .e s

/-- SUB H (R166). -/
def execSubH (s : State) : Out := aluR8 .sub .h s

/-- SUB L (R166). -/
def execSubL (s : State) : Out := aluR8 .sub .l s

/-- SUB A (R166). -/
def execSubA (s : State) : Out := aluR8 .sub .a s

/-- SUB (HL) (R167). -/
def execSubAtHl (s : State) : Out := aluR8 .sub .atHl s

/-- SUB d8 (R168). -/
def execSubD8 (v : Byte) (s : State) : Out := aluImm .sub v s

/-- SBC A,B (R169). -/
def execSbcAB (s : State) : Out := aluR8 .sbc .b s

/-- SBC A,C (R169). -/
def execSbcAC (s : State) : Out := aluR8 .sbc .c s

/-- SBC A,D (R169). -/
def execSbcAD (s : State) : Out := aluR8 .sbc .d s

/-- SBC A,E (R169). -/
def execSbcAE (s : State) : Out := aluR8 .sbc .e s

/-- SBC A,H (R169). -/
def execSbcAH (s : State) : Out := aluR8 .sbc .h s

/-- SBC A,L (R169). -/
def execSbcAL (s : State) : Out := aluR8 .sbc .l s

/-- SBC A,A (R169). -/
def execSbcAA (s : State) : Out := aluR8 .sbc .a s

/-- SBC A,(HL) (R170). -/
def execSbcAAtHl (s : State) : Out := aluR8 .sbc .atHl s

/-- SBC A,d8 (R171). -/
def execSbcAD8 (v : Byte) (s : State) : Out := aluImm .sbc v s

/-- AND B (R172). -/
def execAndB (s : State) : Out := aluR8 .and .b s

/-- AND C (R172). -/
def execAndC (s : State) : Out := aluR8 .and .c s

/-- AND D (R172). -/
def execAndD (s : State) : Out := aluR8 .and .d s

/-- AND E (R172). -/
def execAndE (s : State) : Out := aluR8 .and .e s

/-- AND H (R172). -/
def execAndH (s : State) : Out := aluR8 .and .h s

/-- AND L (R172). -/
def execAndL (s : State) : Out := aluR8 .and .l s

/-- AND A (R172). -/
def execAndA (s : State) : Out := aluR8 .and .a s

/-- AND (HL) (R173). -/
def execAndAtHl (s : State) : Out := aluR8 .and .atHl s

/-- AND d8 (R174). -/
def execAndD8 (v : Byte) (s : State) : Out := aluImm .and v s

/-- XOR B (R175). -/
def execXorB (s : State) : Out := aluR8 .xor .b s

/-- XOR C (R175). -/
def execXorC (s : State) : Out := aluR8 .xor .c s

/-- XOR D (R175). -/
def execXorD (s : State) : Out := aluR8 .xor .d s

/-- XOR E (R175). -/
def execXorE (s : State) : Out := aluR8 .xor .e s

/-- XOR H (R175). -/
def execXorH (s : State) : Out := aluR8 .xor .h s

/-- XOR L (R175). -/
def execXorL (s : State) : Out := aluR8 .xor .l s

/-- XOR A (R175). -/
def execXorA (s : State) : Out := aluR8 .xor .a s

/-- XOR (HL) (R176). -/
def execXorAtHl (s : State) : Out := aluR8 .xor .atHl s

/-- XOR d8 (R177). -/
def execXorD8 (v : Byte) (s : State) : Out := aluImm .xor v s

/-- OR B (R178). -/
def execOrB (s : State) : Out := aluR8 .or .b s

/-- OR C (R178). -/
def execOrC (s : State) : Out := aluR8 .or .c s

/-- OR D (R178). -/
def execOrD (s : State) : Out := aluR8 .or .d s

/-- OR E (R178). -/
def execOrE (s : State) : Out := aluR8 .or .e s

/-- OR H (R178). -/
def execOrH (s : State) : Out := aluR8 .or .h s

/-- OR L (R178). -/
def execOrL (s : State) : Out := aluR8 .or .l s

/-- OR A (R178). -/
def execOrA (s : State) : Out := aluR8 .or .a s

/-- OR (HL) (R179). -/
def execOrAtHl (s : State) : Out := aluR8 .or .atHl s

/-- OR d8 (R180). -/
def execOrD8 (v : Byte) (s : State) : Out := aluImm .or v s

/-- CP B (R181). -/
def execCpB (s : State) : Out := aluR8 .cp .b s

/-- CP C (R181). -/
def execCpC (s : State) : Out := aluR8 .cp .c s

/-- CP D (R181). -/
def execCpD (s : State) : Out := aluR8 .cp .d s

/-- CP E (R181). -/
def execCpE (s : State) : Out := aluR8 .cp .e s

/-- CP H (R181). -/
def execCpH (s : State) : Out := aluR8 .cp .h s

/-- CP L (R181). -/
def execCpL (s : State) : Out := aluR8 .cp .l s

/-- CP A (R181). -/
def execCpA (s : State) : Out := aluR8 .cp .a s

/-- CP (HL) (R182). -/
def execCpAtHl (s : State) : Out := aluR8 .cp .atHl s

/-- CP d8 (R183). -/
def execCpD8 (v : Byte) (s : State) : Out := aluImm .cp v s

/-- INC B (R184). -/
def execIncB (s : State) : Out := incR8 .b s

/-- INC C (R184). -/
def execIncC (s : State) : Out := incR8 .c s

/-- INC D (R184). -/
def execIncD (s : State) : Out := incR8 .d s

/-- INC E (R184). -/
def execIncE (s : State) : Out := incR8 .e s

/-- INC H (R184). -/
def execIncH (s : State) : Out := incR8 .h s

/-- INC L (R184). -/
def execIncL (s : State) : Out := incR8 .l s

/-- INC A (R184). -/
def execIncA (s : State) : Out := incR8 .a s

/-- INC (HL) (R185). -/
def execIncAtHl (s : State) : Out := incR8 .atHl s

/-- DEC B (R186). -/
def execDecB (s : State) : Out := decR8 .b s

/-- DEC C (R186). -/
def execDecC (s : State) : Out := decR8 .c s

/-- DEC D (R186). -/
def execDecD (s : State) : Out := decR8 .d s

/-- DEC E (R186). -/
def execDecE (s : State) : Out := decR8 .e s

/-- DEC H (R186). -/
def execDecH (s : State) : Out := decR8 .h s

/-- DEC L (R186). -/
def execDecL (s : State) : Out := decR8 .l s

/-- DEC A (R186). -/
def execDecA (s : State) : Out := decR8 .a s

/-- DEC (HL) (R187). -/
def execDecAtHl (s : State) : Out := decR8 .atHl s

/-- DAA (R188). -/
def execDaa (s : State) : Out := accumulator (daaResult s.a s.flags) s

/-- CPL (R189). -/
def execCpl (s : State) : Out := accumulator (~~~s.a, { s.flags with n := true, h := true }) s

/-- SCF (R190). -/
def execScf (s : State) : Out := .next { s with flags := { s.flags with n := false, h := false, c := true } }

/-- CCF (R191). -/
def execCcf (s : State) : Out := .next { s with flags := { s.flags with n := false, h := false, c := !s.flags.c } }

/-- RLCA (R192). -/
def execRlca (s : State) : Out := accumulator (clearZ (rlc8 s.a)) s

/-- RRCA (R193). -/
def execRrca (s : State) : Out := accumulator (clearZ (rrc8 s.a)) s

/-- RLA (R194). -/
def execRla (s : State) : Out := accumulator (clearZ (rl8 s.a s.flags.c)) s

/-- RRA (R195). -/
def execRra (s : State) : Out := accumulator (clearZ (rr8 s.a s.flags.c)) s

end Sys2Proof.Machine
end

