-- ==== Sys2Proof/Machine/CbBit.lean ====
section
/-! DEFINITION. BIT, RES and SET (spec/45_cb_prefixed.md R246 to R251). -/

namespace Sys2Proof.Machine

/-- BIT n of an `r8` operand: nothing but the flags is written. -/
def testBitR8 (n : Nat) (z : R8) (s : State) : Out :=
  readR8 z s fun v => .next { s with flags := testBitFlags n v s.flags }

/-- RES n of an `r8` operand: no flag is written, and the write happens even where it changes nothing. -/
def clearBitR8 (n : Nat) (z : R8) (s : State) : Out := modifyR8 (fun v f => (clearBit n v, f)) z s

/-- SET n of an `r8` operand: no flag is written. -/
def assertBitR8 (n : Nat) (z : R8) (s : State) : Out := modifyR8 (fun v f => (assertBit n v, f)) z s

/-- BIT 0,B (R246). -/
def execBit0B (s : State) : Out := testBitR8 0 .b s

/-- BIT 0,C (R246). -/
def execBit0C (s : State) : Out := testBitR8 0 .c s

/-- BIT 0,D (R246). -/
def execBit0D (s : State) : Out := testBitR8 0 .d s

/-- BIT 0,E (R246). -/
def execBit0E (s : State) : Out := testBitR8 0 .e s

/-- BIT 0,H (R246). -/
def execBit0H (s : State) : Out := testBitR8 0 .h s

/-- BIT 0,L (R246). -/
def execBit0L (s : State) : Out := testBitR8 0 .l s

/-- BIT 0,A (R246). -/
def execBit0A (s : State) : Out := testBitR8 0 .a s

/-- BIT 1,B (R246). -/
def execBit1B (s : State) : Out := testBitR8 1 .b s

/-- BIT 1,C (R246). -/
def execBit1C (s : State) : Out := testBitR8 1 .c s

/-- BIT 1,D (R246). -/
def execBit1D (s : State) : Out := testBitR8 1 .d s

/-- BIT 1,E (R246). -/
def execBit1E (s : State) : Out := testBitR8 1 .e s

/-- BIT 1,H (R246). -/
def execBit1H (s : State) : Out := testBitR8 1 .h s

/-- BIT 1,L (R246). -/
def execBit1L (s : State) : Out := testBitR8 1 .l s

/-- BIT 1,A (R246). -/
def execBit1A (s : State) : Out := testBitR8 1 .a s

/-- BIT 2,B (R246). -/
def execBit2B (s : State) : Out := testBitR8 2 .b s

/-- BIT 2,C (R246). -/
def execBit2C (s : State) : Out := testBitR8 2 .c s

/-- BIT 2,D (R246). -/
def execBit2D (s : State) : Out := testBitR8 2 .d s

/-- BIT 2,E (R246). -/
def execBit2E (s : State) : Out := testBitR8 2 .e s

/-- BIT 2,H (R246). -/
def execBit2H (s : State) : Out := testBitR8 2 .h s

/-- BIT 2,L (R246). -/
def execBit2L (s : State) : Out := testBitR8 2 .l s

/-- BIT 2,A (R246). -/
def execBit2A (s : State) : Out := testBitR8 2 .a s

/-- BIT 3,B (R246). -/
def execBit3B (s : State) : Out := testBitR8 3 .b s

/-- BIT 3,C (R246). -/
def execBit3C (s : State) : Out := testBitR8 3 .c s

/-- BIT 3,D (R246). -/
def execBit3D (s : State) : Out := testBitR8 3 .d s

/-- BIT 3,E (R246). -/
def execBit3E (s : State) : Out := testBitR8 3 .e s

/-- BIT 3,H (R246). -/
def execBit3H (s : State) : Out := testBitR8 3 .h s

/-- BIT 3,L (R246). -/
def execBit3L (s : State) : Out := testBitR8 3 .l s

/-- BIT 3,A (R246). -/
def execBit3A (s : State) : Out := testBitR8 3 .a s

/-- BIT 4,B (R246). -/
def execBit4B (s : State) : Out := testBitR8 4 .b s

/-- BIT 4,C (R246). -/
def execBit4C (s : State) : Out := testBitR8 4 .c s

/-- BIT 4,D (R246). -/
def execBit4D (s : State) : Out := testBitR8 4 .d s

/-- BIT 4,E (R246). -/
def execBit4E (s : State) : Out := testBitR8 4 .e s

/-- BIT 4,H (R246). -/
def execBit4H (s : State) : Out := testBitR8 4 .h s

/-- BIT 4,L (R246). -/
def execBit4L (s : State) : Out := testBitR8 4 .l s

/-- BIT 4,A (R246). -/
def execBit4A (s : State) : Out := testBitR8 4 .a s

/-- BIT 5,B (R246). -/
def execBit5B (s : State) : Out := testBitR8 5 .b s

/-- BIT 5,C (R246). -/
def execBit5C (s : State) : Out := testBitR8 5 .c s

/-- BIT 5,D (R246). -/
def execBit5D (s : State) : Out := testBitR8 5 .d s

/-- BIT 5,E (R246). -/
def execBit5E (s : State) : Out := testBitR8 5 .e s

/-- BIT 5,H (R246). -/
def execBit5H (s : State) : Out := testBitR8 5 .h s

/-- BIT 5,L (R246). -/
def execBit5L (s : State) : Out := testBitR8 5 .l s

/-- BIT 5,A (R246). -/
def execBit5A (s : State) : Out := testBitR8 5 .a s

/-- BIT 6,B (R246). -/
def execBit6B (s : State) : Out := testBitR8 6 .b s

/-- BIT 6,C (R246). -/
def execBit6C (s : State) : Out := testBitR8 6 .c s

/-- BIT 6,D (R246). -/
def execBit6D (s : State) : Out := testBitR8 6 .d s

/-- BIT 6,E (R246). -/
def execBit6E (s : State) : Out := testBitR8 6 .e s

/-- BIT 6,H (R246). -/
def execBit6H (s : State) : Out := testBitR8 6 .h s

/-- BIT 6,L (R246). -/
def execBit6L (s : State) : Out := testBitR8 6 .l s

/-- BIT 6,A (R246). -/
def execBit6A (s : State) : Out := testBitR8 6 .a s

/-- BIT 7,B (R246). -/
def execBit7B (s : State) : Out := testBitR8 7 .b s

/-- BIT 7,C (R246). -/
def execBit7C (s : State) : Out := testBitR8 7 .c s

/-- BIT 7,D (R246). -/
def execBit7D (s : State) : Out := testBitR8 7 .d s

/-- BIT 7,E (R246). -/
def execBit7E (s : State) : Out := testBitR8 7 .e s

/-- BIT 7,H (R246). -/
def execBit7H (s : State) : Out := testBitR8 7 .h s

/-- BIT 7,L (R246). -/
def execBit7L (s : State) : Out := testBitR8 7 .l s

/-- BIT 7,A (R246). -/
def execBit7A (s : State) : Out := testBitR8 7 .a s

/-- BIT 0,(HL) (R247). -/
def execBit0AtHl (s : State) : Out := testBitR8 0 .atHl s

/-- BIT 1,(HL) (R247). -/
def execBit1AtHl (s : State) : Out := testBitR8 1 .atHl s

/-- BIT 2,(HL) (R247). -/
def execBit2AtHl (s : State) : Out := testBitR8 2 .atHl s

/-- BIT 3,(HL) (R247). -/
def execBit3AtHl (s : State) : Out := testBitR8 3 .atHl s

/-- BIT 4,(HL) (R247). -/
def execBit4AtHl (s : State) : Out := testBitR8 4 .atHl s

/-- BIT 5,(HL) (R247). -/
def execBit5AtHl (s : State) : Out := testBitR8 5 .atHl s

/-- BIT 6,(HL) (R247). -/
def execBit6AtHl (s : State) : Out := testBitR8 6 .atHl s

/-- BIT 7,(HL) (R247). -/
def execBit7AtHl (s : State) : Out := testBitR8 7 .atHl s

/-- RES 0,B (R248). -/
def execRes0B (s : State) : Out := clearBitR8 0 .b s

/-- RES 0,C (R248). -/
def execRes0C (s : State) : Out := clearBitR8 0 .c s

/-- RES 0,D (R248). -/
def execRes0D (s : State) : Out := clearBitR8 0 .d s

/-- RES 0,E (R248). -/
def execRes0E (s : State) : Out := clearBitR8 0 .e s

/-- RES 0,H (R248). -/
def execRes0H (s : State) : Out := clearBitR8 0 .h s

/-- RES 0,L (R248). -/
def execRes0L (s : State) : Out := clearBitR8 0 .l s

/-- RES 0,A (R248). -/
def execRes0A (s : State) : Out := clearBitR8 0 .a s

/-- RES 1,B (R248). -/
def execRes1B (s : State) : Out := clearBitR8 1 .b s

/-- RES 1,C (R248). -/
def execRes1C (s : State) : Out := clearBitR8 1 .c s

/-- RES 1,D (R248). -/
def execRes1D (s : State) : Out := clearBitR8 1 .d s

/-- RES 1,E (R248). -/
def execRes1E (s : State) : Out := clearBitR8 1 .e s

/-- RES 1,H (R248). -/
def execRes1H (s : State) : Out := clearBitR8 1 .h s

/-- RES 1,L (R248). -/
def execRes1L (s : State) : Out := clearBitR8 1 .l s

/-- RES 1,A (R248). -/
def execRes1A (s : State) : Out := clearBitR8 1 .a s

/-- RES 2,B (R248). -/
def execRes2B (s : State) : Out := clearBitR8 2 .b s

/-- RES 2,C (R248). -/
def execRes2C (s : State) : Out := clearBitR8 2 .c s

/-- RES 2,D (R248). -/
def execRes2D (s : State) : Out := clearBitR8 2 .d s

/-- RES 2,E (R248). -/
def execRes2E (s : State) : Out := clearBitR8 2 .e s

/-- RES 2,H (R248). -/
def execRes2H (s : State) : Out := clearBitR8 2 .h s

/-- RES 2,L (R248). -/
def execRes2L (s : State) : Out := clearBitR8 2 .l s

/-- RES 2,A (R248). -/
def execRes2A (s : State) : Out := clearBitR8 2 .a s

/-- RES 3,B (R248). -/
def execRes3B (s : State) : Out := clearBitR8 3 .b s

/-- RES 3,C (R248). -/
def execRes3C (s : State) : Out := clearBitR8 3 .c s

/-- RES 3,D (R248). -/
def execRes3D (s : State) : Out := clearBitR8 3 .d s

/-- RES 3,E (R248). -/
def execRes3E (s : State) : Out := clearBitR8 3 .e s

/-- RES 3,H (R248). -/
def execRes3H (s : State) : Out := clearBitR8 3 .h s

/-- RES 3,L (R248). -/
def execRes3L (s : State) : Out := clearBitR8 3 .l s

/-- RES 3,A (R248). -/
def execRes3A (s : State) : Out := clearBitR8 3 .a s

/-- RES 4,B (R248). -/
def execRes4B (s : State) : Out := clearBitR8 4 .b s

/-- RES 4,C (R248). -/
def execRes4C (s : State) : Out := clearBitR8 4 .c s

/-- RES 4,D (R248). -/
def execRes4D (s : State) : Out := clearBitR8 4 .d s

/-- RES 4,E (R248). -/
def execRes4E (s : State) : Out := clearBitR8 4 .e s

/-- RES 4,H (R248). -/
def execRes4H (s : State) : Out := clearBitR8 4 .h s

/-- RES 4,L (R248). -/
def execRes4L (s : State) : Out := clearBitR8 4 .l s

/-- RES 4,A (R248). -/
def execRes4A (s : State) : Out := clearBitR8 4 .a s

/-- RES 5,B (R248). -/
def execRes5B (s : State) : Out := clearBitR8 5 .b s

/-- RES 5,C (R248). -/
def execRes5C (s : State) : Out := clearBitR8 5 .c s

/-- RES 5,D (R248). -/
def execRes5D (s : State) : Out := clearBitR8 5 .d s

/-- RES 5,E (R248). -/
def execRes5E (s : State) : Out := clearBitR8 5 .e s

/-- RES 5,H (R248). -/
def execRes5H (s : State) : Out := clearBitR8 5 .h s

/-- RES 5,L (R248). -/
def execRes5L (s : State) : Out := clearBitR8 5 .l s

/-- RES 5,A (R248). -/
def execRes5A (s : State) : Out := clearBitR8 5 .a s

/-- RES 6,B (R248). -/
def execRes6B (s : State) : Out := clearBitR8 6 .b s

/-- RES 6,C (R248). -/
def execRes6C (s : State) : Out := clearBitR8 6 .c s

/-- RES 6,D (R248). -/
def execRes6D (s : State) : Out := clearBitR8 6 .d s

/-- RES 6,E (R248). -/
def execRes6E (s : State) : Out := clearBitR8 6 .e s

/-- RES 6,H (R248). -/
def execRes6H (s : State) : Out := clearBitR8 6 .h s

/-- RES 6,L (R248). -/
def execRes6L (s : State) : Out := clearBitR8 6 .l s

/-- RES 6,A (R248). -/
def execRes6A (s : State) : Out := clearBitR8 6 .a s

/-- RES 7,B (R248). -/
def execRes7B (s : State) : Out := clearBitR8 7 .b s

/-- RES 7,C (R248). -/
def execRes7C (s : State) : Out := clearBitR8 7 .c s

/-- RES 7,D (R248). -/
def execRes7D (s : State) : Out := clearBitR8 7 .d s

/-- RES 7,E (R248). -/
def execRes7E (s : State) : Out := clearBitR8 7 .e s

/-- RES 7,H (R248). -/
def execRes7H (s : State) : Out := clearBitR8 7 .h s

/-- RES 7,L (R248). -/
def execRes7L (s : State) : Out := clearBitR8 7 .l s

/-- RES 7,A (R248). -/
def execRes7A (s : State) : Out := clearBitR8 7 .a s

/-- RES 0,(HL) (R249). -/
def execRes0AtHl (s : State) : Out := clearBitR8 0 .atHl s

/-- RES 1,(HL) (R249). -/
def execRes1AtHl (s : State) : Out := clearBitR8 1 .atHl s

/-- RES 2,(HL) (R249). -/
def execRes2AtHl (s : State) : Out := clearBitR8 2 .atHl s

/-- RES 3,(HL) (R249). -/
def execRes3AtHl (s : State) : Out := clearBitR8 3 .atHl s

/-- RES 4,(HL) (R249). -/
def execRes4AtHl (s : State) : Out := clearBitR8 4 .atHl s

/-- RES 5,(HL) (R249). -/
def execRes5AtHl (s : State) : Out := clearBitR8 5 .atHl s

/-- RES 6,(HL) (R249). -/
def execRes6AtHl (s : State) : Out := clearBitR8 6 .atHl s

/-- RES 7,(HL) (R249). -/
def execRes7AtHl (s : State) : Out := clearBitR8 7 .atHl s

/-- SET 0,B (R250). -/
def execSet0B (s : State) : Out := assertBitR8 0 .b s

/-- SET 0,C (R250). -/
def execSet0C (s : State) : Out := assertBitR8 0 .c s

/-- SET 0,D (R250). -/
def execSet0D (s : State) : Out := assertBitR8 0 .d s

/-- SET 0,E (R250). -/
def execSet0E (s : State) : Out := assertBitR8 0 .e s

/-- SET 0,H (R250). -/
def execSet0H (s : State) : Out := assertBitR8 0 .h s

/-- SET 0,L (R250). -/
def execSet0L (s : State) : Out := assertBitR8 0 .l s

/-- SET 0,A (R250). -/
def execSet0A (s : State) : Out := assertBitR8 0 .a s

/-- SET 1,B (R250). -/
def execSet1B (s : State) : Out := assertBitR8 1 .b s

/-- SET 1,C (R250). -/
def execSet1C (s : State) : Out := assertBitR8 1 .c s

/-- SET 1,D (R250). -/
def execSet1D (s : State) : Out := assertBitR8 1 .d s

/-- SET 1,E (R250). -/
def execSet1E (s : State) : Out := assertBitR8 1 .e s

/-- SET 1,H (R250). -/
def execSet1H (s : State) : Out := assertBitR8 1 .h s

/-- SET 1,L (R250). -/
def execSet1L (s : State) : Out := assertBitR8 1 .l s

/-- SET 1,A (R250). -/
def execSet1A (s : State) : Out := assertBitR8 1 .a s

/-- SET 2,B (R250). -/
def execSet2B (s : State) : Out := assertBitR8 2 .b s

/-- SET 2,C (R250). -/
def execSet2C (s : State) : Out := assertBitR8 2 .c s

/-- SET 2,D (R250). -/
def execSet2D (s : State) : Out := assertBitR8 2 .d s

/-- SET 2,E (R250). -/
def execSet2E (s : State) : Out := assertBitR8 2 .e s

/-- SET 2,H (R250). -/
def execSet2H (s : State) : Out := assertBitR8 2 .h s

/-- SET 2,L (R250). -/
def execSet2L (s : State) : Out := assertBitR8 2 .l s

/-- SET 2,A (R250). -/
def execSet2A (s : State) : Out := assertBitR8 2 .a s

/-- SET 3,B (R250). -/
def execSet3B (s : State) : Out := assertBitR8 3 .b s

/-- SET 3,C (R250). -/
def execSet3C (s : State) : Out := assertBitR8 3 .c s

/-- SET 3,D (R250). -/
def execSet3D (s : State) : Out := assertBitR8 3 .d s

/-- SET 3,E (R250). -/
def execSet3E (s : State) : Out := assertBitR8 3 .e s

/-- SET 3,H (R250). -/
def execSet3H (s : State) : Out := assertBitR8 3 .h s

/-- SET 3,L (R250). -/
def execSet3L (s : State) : Out := assertBitR8 3 .l s

/-- SET 3,A (R250). -/
def execSet3A (s : State) : Out := assertBitR8 3 .a s

/-- SET 4,B (R250). -/
def execSet4B (s : State) : Out := assertBitR8 4 .b s

/-- SET 4,C (R250). -/
def execSet4C (s : State) : Out := assertBitR8 4 .c s

/-- SET 4,D (R250). -/
def execSet4D (s : State) : Out := assertBitR8 4 .d s

/-- SET 4,E (R250). -/
def execSet4E (s : State) : Out := assertBitR8 4 .e s

/-- SET 4,H (R250). -/
def execSet4H (s : State) : Out := assertBitR8 4 .h s

/-- SET 4,L (R250). -/
def execSet4L (s : State) : Out := assertBitR8 4 .l s

/-- SET 4,A (R250). -/
def execSet4A (s : State) : Out := assertBitR8 4 .a s

/-- SET 5,B (R250). -/
def execSet5B (s : State) : Out := assertBitR8 5 .b s

/-- SET 5,C (R250). -/
def execSet5C (s : State) : Out := assertBitR8 5 .c s

/-- SET 5,D (R250). -/
def execSet5D (s : State) : Out := assertBitR8 5 .d s

/-- SET 5,E (R250). -/
def execSet5E (s : State) : Out := assertBitR8 5 .e s

/-- SET 5,H (R250). -/
def execSet5H (s : State) : Out := assertBitR8 5 .h s

/-- SET 5,L (R250). -/
def execSet5L (s : State) : Out := assertBitR8 5 .l s

/-- SET 5,A (R250). -/
def execSet5A (s : State) : Out := assertBitR8 5 .a s

/-- SET 6,B (R250). -/
def execSet6B (s : State) : Out := assertBitR8 6 .b s

/-- SET 6,C (R250). -/
def execSet6C (s : State) : Out := assertBitR8 6 .c s

/-- SET 6,D (R250). -/
def execSet6D (s : State) : Out := assertBitR8 6 .d s

/-- SET 6,E (R250). -/
def execSet6E (s : State) : Out := assertBitR8 6 .e s

/-- SET 6,H (R250). -/
def execSet6H (s : State) : Out := assertBitR8 6 .h s

/-- SET 6,L (R250). -/
def execSet6L (s : State) : Out := assertBitR8 6 .l s

/-- SET 6,A (R250). -/
def execSet6A (s : State) : Out := assertBitR8 6 .a s

/-- SET 7,B (R250). -/
def execSet7B (s : State) : Out := assertBitR8 7 .b s

/-- SET 7,C (R250). -/
def execSet7C (s : State) : Out := assertBitR8 7 .c s

/-- SET 7,D (R250). -/
def execSet7D (s : State) : Out := assertBitR8 7 .d s

/-- SET 7,E (R250). -/
def execSet7E (s : State) : Out := assertBitR8 7 .e s

/-- SET 7,H (R250). -/
def execSet7H (s : State) : Out := assertBitR8 7 .h s

/-- SET 7,L (R250). -/
def execSet7L (s : State) : Out := assertBitR8 7 .l s

/-- SET 7,A (R250). -/
def execSet7A (s : State) : Out := assertBitR8 7 .a s

/-- SET 0,(HL) (R251). -/
def execSet0AtHl (s : State) : Out := assertBitR8 0 .atHl s

/-- SET 1,(HL) (R251). -/
def execSet1AtHl (s : State) : Out := assertBitR8 1 .atHl s

/-- SET 2,(HL) (R251). -/
def execSet2AtHl (s : State) : Out := assertBitR8 2 .atHl s

/-- SET 3,(HL) (R251). -/
def execSet3AtHl (s : State) : Out := assertBitR8 3 .atHl s

/-- SET 4,(HL) (R251). -/
def execSet4AtHl (s : State) : Out := assertBitR8 4 .atHl s

/-- SET 5,(HL) (R251). -/
def execSet5AtHl (s : State) : Out := assertBitR8 5 .atHl s

/-- SET 6,(HL) (R251). -/
def execSet6AtHl (s : State) : Out := assertBitR8 6 .atHl s

/-- SET 7,(HL) (R251). -/
def execSet7AtHl (s : State) : Out := assertBitR8 7 .atHl s

end Sys2Proof.Machine
end

