-- ==== Sys2Proof/Machine/CbRotate.lean ====
section
/-! DEFINITION. The rotates, shifts and SWAP of the extended table (spec/45_cb_prefixed.md R230 to R245). -/

namespace Sys2Proof.Machine

/-- A rotate or shift of an `r8` operand. -/
def rotR8 (op : RotOp) (z : R8) (s : State) : Out := modifyR8 (rotResult op) z s

/-- RLC B (R230). -/
def execCbRlcB (s : State) : Out := rotR8 .rlc .b s

/-- RLC C (R230). -/
def execCbRlcC (s : State) : Out := rotR8 .rlc .c s

/-- RLC D (R230). -/
def execCbRlcD (s : State) : Out := rotR8 .rlc .d s

/-- RLC E (R230). -/
def execCbRlcE (s : State) : Out := rotR8 .rlc .e s

/-- RLC H (R230). -/
def execCbRlcH (s : State) : Out := rotR8 .rlc .h s

/-- RLC L (R230). -/
def execCbRlcL (s : State) : Out := rotR8 .rlc .l s

/-- RLC A (R230). -/
def execCbRlcA (s : State) : Out := rotR8 .rlc .a s

/-- RLC (HL) (R231). -/
def execCbRlcAtHl (s : State) : Out := rotR8 .rlc .atHl s

/-- RRC B (R232). -/
def execCbRrcB (s : State) : Out := rotR8 .rrc .b s

/-- RRC C (R232). -/
def execCbRrcC (s : State) : Out := rotR8 .rrc .c s

/-- RRC D (R232). -/
def execCbRrcD (s : State) : Out := rotR8 .rrc .d s

/-- RRC E (R232). -/
def execCbRrcE (s : State) : Out := rotR8 .rrc .e s

/-- RRC H (R232). -/
def execCbRrcH (s : State) : Out := rotR8 .rrc .h s

/-- RRC L (R232). -/
def execCbRrcL (s : State) : Out := rotR8 .rrc .l s

/-- RRC A (R232). -/
def execCbRrcA (s : State) : Out := rotR8 .rrc .a s

/-- RRC (HL) (R233). -/
def execCbRrcAtHl (s : State) : Out := rotR8 .rrc .atHl s

/-- RL B (R234). -/
def execCbRlB (s : State) : Out := rotR8 .rl .b s

/-- RL C (R234). -/
def execCbRlC (s : State) : Out := rotR8 .rl .c s

/-- RL D (R234). -/
def execCbRlD (s : State) : Out := rotR8 .rl .d s

/-- RL E (R234). -/
def execCbRlE (s : State) : Out := rotR8 .rl .e s

/-- RL H (R234). -/
def execCbRlH (s : State) : Out := rotR8 .rl .h s

/-- RL L (R234). -/
def execCbRlL (s : State) : Out := rotR8 .rl .l s

/-- RL A (R234). -/
def execCbRlA (s : State) : Out := rotR8 .rl .a s

/-- RL (HL) (R235). -/
def execCbRlAtHl (s : State) : Out := rotR8 .rl .atHl s

/-- RR B (R236). -/
def execCbRrB (s : State) : Out := rotR8 .rr .b s

/-- RR C (R236). -/
def execCbRrC (s : State) : Out := rotR8 .rr .c s

/-- RR D (R236). -/
def execCbRrD (s : State) : Out := rotR8 .rr .d s

/-- RR E (R236). -/
def execCbRrE (s : State) : Out := rotR8 .rr .e s

/-- RR H (R236). -/
def execCbRrH (s : State) : Out := rotR8 .rr .h s

/-- RR L (R236). -/
def execCbRrL (s : State) : Out := rotR8 .rr .l s

/-- RR A (R236). -/
def execCbRrA (s : State) : Out := rotR8 .rr .a s

/-- RR (HL) (R237). -/
def execCbRrAtHl (s : State) : Out := rotR8 .rr .atHl s

/-- SLA B (R238). -/
def execCbSlaB (s : State) : Out := rotR8 .sla .b s

/-- SLA C (R238). -/
def execCbSlaC (s : State) : Out := rotR8 .sla .c s

/-- SLA D (R238). -/
def execCbSlaD (s : State) : Out := rotR8 .sla .d s

/-- SLA E (R238). -/
def execCbSlaE (s : State) : Out := rotR8 .sla .e s

/-- SLA H (R238). -/
def execCbSlaH (s : State) : Out := rotR8 .sla .h s

/-- SLA L (R238). -/
def execCbSlaL (s : State) : Out := rotR8 .sla .l s

/-- SLA A (R238). -/
def execCbSlaA (s : State) : Out := rotR8 .sla .a s

/-- SLA (HL) (R239). -/
def execCbSlaAtHl (s : State) : Out := rotR8 .sla .atHl s

/-- SRA B (R240). -/
def execCbSraB (s : State) : Out := rotR8 .sra .b s

/-- SRA C (R240). -/
def execCbSraC (s : State) : Out := rotR8 .sra .c s

/-- SRA D (R240). -/
def execCbSraD (s : State) : Out := rotR8 .sra .d s

/-- SRA E (R240). -/
def execCbSraE (s : State) : Out := rotR8 .sra .e s

/-- SRA H (R240). -/
def execCbSraH (s : State) : Out := rotR8 .sra .h s

/-- SRA L (R240). -/
def execCbSraL (s : State) : Out := rotR8 .sra .l s

/-- SRA A (R240). -/
def execCbSraA (s : State) : Out := rotR8 .sra .a s

/-- SRA (HL) (R241). -/
def execCbSraAtHl (s : State) : Out := rotR8 .sra .atHl s

/-- SWAP B (R242). -/
def execCbSwapB (s : State) : Out := rotR8 .swap .b s

/-- SWAP C (R242). -/
def execCbSwapC (s : State) : Out := rotR8 .swap .c s

/-- SWAP D (R242). -/
def execCbSwapD (s : State) : Out := rotR8 .swap .d s

/-- SWAP E (R242). -/
def execCbSwapE (s : State) : Out := rotR8 .swap .e s

/-- SWAP H (R242). -/
def execCbSwapH (s : State) : Out := rotR8 .swap .h s

/-- SWAP L (R242). -/
def execCbSwapL (s : State) : Out := rotR8 .swap .l s

/-- SWAP A (R242). -/
def execCbSwapA (s : State) : Out := rotR8 .swap .a s

/-- SWAP (HL) (R243). -/
def execCbSwapAtHl (s : State) : Out := rotR8 .swap .atHl s

/-- SRL B (R244). -/
def execCbSrlB (s : State) : Out := rotR8 .srl .b s

/-- SRL C (R244). -/
def execCbSrlC (s : State) : Out := rotR8 .srl .c s

/-- SRL D (R244). -/
def execCbSrlD (s : State) : Out := rotR8 .srl .d s

/-- SRL E (R244). -/
def execCbSrlE (s : State) : Out := rotR8 .srl .e s

/-- SRL H (R244). -/
def execCbSrlH (s : State) : Out := rotR8 .srl .h s

/-- SRL L (R244). -/
def execCbSrlL (s : State) : Out := rotR8 .srl .l s

/-- SRL A (R244). -/
def execCbSrlA (s : State) : Out := rotR8 .srl .a s

/-- SRL (HL) (R245). -/
def execCbSrlAtHl (s : State) : Out := rotR8 .srl .atHl s

end Sys2Proof.Machine
end

