-- ==== Sys2Proof/Machine/Control.lean ====
section
/-! DEFINITION. Control transfer (spec/44_control.md). When a meaning runs, `pc` already points past the whole instruction. No flag is
written. -/

namespace Sys2Proof.Machine

/-- A conditional transfer: where the condition fails, only the conditional-not-taken flag is set (spec/40_step_and_dispatch.md
R116). -/
def onCond (i : Cond) (taken : State → Out) (s : State) : Out :=
  if s.holds i then taken s else .next { s with notTaken := true }

/-- A relative jump: the signed offset is added to the address after the instruction (R213). -/
def jumpRelative (e : Byte) (s : State) : Out := .next { s with pc := s.pc + sext8 e }

/-- A call: the address after the instruction is pushed (R215, R219). -/
def callTo (t : Word) (s : State) : Out := push s.pc s fun s => .next { s with pc := t }

/-- A return (R217). -/
def returnFrom (s : State) : Out := pop s fun t s => .next { s with pc := t }

/-- JP a16 (R210). -/
def execJpA16 (t : Word) (s : State) : Out := .next { s with pc := t }

/-- JP NZ,a16 (R211). -/
def execJpNzA16 (t : Word) (s : State) : Out := onCond .nz (fun s => .next { s with pc := t }) s

/-- JP Z,a16 (R211). -/
def execJpZA16 (t : Word) (s : State) : Out := onCond .z (fun s => .next { s with pc := t }) s

/-- JP NC,a16 (R211). -/
def execJpNcA16 (t : Word) (s : State) : Out := onCond .nc (fun s => .next { s with pc := t }) s

/-- JP C,a16 (R211). -/
def execJpCA16 (t : Word) (s : State) : Out := onCond .c (fun s => .next { s with pc := t }) s

/-- JP HL (R212). -/
def execJpHl (s : State) : Out := .next { s with pc := s.hl }

/-- JR e8 (R213). -/
def execJrE8 (e : Byte) (s : State) : Out := jumpRelative e s

/-- JR NZ,e8 (R214). -/
def execJrNzE8 (e : Byte) (s : State) : Out := onCond .nz (jumpRelative e) s

/-- JR Z,e8 (R214). -/
def execJrZE8 (e : Byte) (s : State) : Out := onCond .z (jumpRelative e) s

/-- JR NC,e8 (R214). -/
def execJrNcE8 (e : Byte) (s : State) : Out := onCond .nc (jumpRelative e) s

/-- JR C,e8 (R214). -/
def execJrCE8 (e : Byte) (s : State) : Out := onCond .c (jumpRelative e) s

/-- CALL a16 (R215). -/
def execCallA16 (t : Word) (s : State) : Out := callTo t s

/-- CALL NZ,a16 (R216). -/
def execCallNzA16 (t : Word) (s : State) : Out := onCond .nz (callTo t) s

/-- CALL Z,a16 (R216). -/
def execCallZA16 (t : Word) (s : State) : Out := onCond .z (callTo t) s

/-- CALL NC,a16 (R216). -/
def execCallNcA16 (t : Word) (s : State) : Out := onCond .nc (callTo t) s

/-- CALL C,a16 (R216). -/
def execCallCA16 (t : Word) (s : State) : Out := onCond .c (callTo t) s

/-- RET (R217). -/
def execRet (s : State) : Out := returnFrom s

/-- RET NZ (R218). -/
def execRetNz (s : State) : Out := onCond .nz returnFrom s

/-- RET Z (R218). -/
def execRetZ (s : State) : Out := onCond .z returnFrom s

/-- RET NC (R218). -/
def execRetNc (s : State) : Out := onCond .nc returnFrom s

/-- RET C (R218). -/
def execRetC (s : State) : Out := onCond .c returnFrom s

/-- RST 0x00 (R219). -/
def execRst00 (s : State) : Out := callTo 0x0000#16 s

/-- RST 0x08 (R219). -/
def execRst08 (s : State) : Out := callTo 0x0008#16 s

/-- RST 0x10 (R219). -/
def execRst10 (s : State) : Out := callTo 0x0010#16 s

/-- RST 0x18 (R219). -/
def execRst18 (s : State) : Out := callTo 0x0018#16 s

/-- RST 0x20 (R219). -/
def execRst20 (s : State) : Out := callTo 0x0020#16 s

/-- RST 0x28 (R219). -/
def execRst28 (s : State) : Out := callTo 0x0028#16 s

/-- RST 0x30 (R219). -/
def execRst30 (s : State) : Out := callTo 0x0030#16 s

/-- RST 0x38 (R219). -/
def execRst38 (s : State) : Out := callTo 0x0038#16 s

/-- RETI (R220). -/
def execReti (s : State) : Out := pop s fun t s => .next { s with pc := t, ime := true }

end Sys2Proof.Machine
end

