-- ==== Sys2Proof/Machine/Loads.lean ====
section
/-! DEFINITION. The loads and stores (spec/41_loads.md R130 to R146, R148). None writes a flag. -/

namespace Sys2Proof.Machine

/-- LD between two `r8` operands: the source is read, then the destination written. -/
def loadR8 (dst src : R8) (s : State) : Out := readR8 src s fun v => writeR8 dst v s .next

/-- LD of an immediate to an `r8` operand. -/
def loadImm (dst : R8) (v : Byte) (s : State) : Out := writeR8 dst v s .next

/-- A load of A from an address. -/
def loadA (addr : Word) (s : State) : Out := readByte .read addr s fun v => .next { s with a := v }

/-- A store of A to an address. -/
def storeA (addr : Word) (s : State) : Out := writeByte addr s.a s .next

/-- A load of A from HL, after which HL becomes `hl`; a faulting read leaves HL as it was. -/
def loadAThen (hl : Word) (s : State) : Out := readByte .read s.hl s fun v => .next ({ s with a := v }.setHl hl)

/-- A store of A to HL, after which HL becomes `hl`; a faulting write leaves HL as it was. -/
def storeAThen (hl : Word) (s : State) : Out := writeByte s.hl s.a s fun s' => .next (s'.setHl hl)

/-- LD B,B (R130). -/
def execLdBB (s : State) : Out := loadR8 .b .b s

/-- LD B,C (R130). -/
def execLdBC (s : State) : Out := loadR8 .b .c s

/-- LD B,D (R130). -/
def execLdBD (s : State) : Out := loadR8 .b .d s

/-- LD B,E (R130). -/
def execLdBE (s : State) : Out := loadR8 .b .e s

/-- LD B,H (R130). -/
def execLdBH (s : State) : Out := loadR8 .b .h s

/-- LD B,L (R130). -/
def execLdBL (s : State) : Out := loadR8 .b .l s

/-- LD B,A (R130). -/
def execLdBA (s : State) : Out := loadR8 .b .a s

/-- LD C,B (R130). -/
def execLdCB (s : State) : Out := loadR8 .c .b s

/-- LD C,C (R130). -/
def execLdCC (s : State) : Out := loadR8 .c .c s

/-- LD C,D (R130). -/
def execLdCD (s : State) : Out := loadR8 .c .d s

/-- LD C,E (R130). -/
def execLdCE (s : State) : Out := loadR8 .c .e s

/-- LD C,H (R130). -/
def execLdCH (s : State) : Out := loadR8 .c .h s

/-- LD C,L (R130). -/
def execLdCL (s : State) : Out := loadR8 .c .l s

/-- LD C,A (R130). -/
def execLdCA (s : State) : Out := loadR8 .c .a s

/-- LD D,B (R130). -/
def execLdDB (s : State) : Out := loadR8 .d .b s

/-- LD D,C (R130). -/
def execLdDC (s : State) : Out := loadR8 .d .c s

/-- LD D,D (R130). -/
def execLdDD (s : State) : Out := loadR8 .d .d s

/-- LD D,E (R130). -/
def execLdDE (s : State) : Out := loadR8 .d .e s

/-- LD D,H (R130). -/
def execLdDH (s : State) : Out := loadR8 .d .h s

/-- LD D,L (R130). -/
def execLdDL (s : State) : Out := loadR8 .d .l s

/-- LD D,A (R130). -/
def execLdDA (s : State) : Out := loadR8 .d .a s

/-- LD E,B (R130). -/
def execLdEB (s : State) : Out := loadR8 .e .b s

/-- LD E,C (R130). -/
def execLdEC (s : State) : Out := loadR8 .e .c s

/-- LD E,D (R130). -/
def execLdED (s : State) : Out := loadR8 .e .d s

/-- LD E,E (R130). -/
def execLdEE (s : State) : Out := loadR8 .e .e s

/-- LD E,H (R130). -/
def execLdEH (s : State) : Out := loadR8 .e .h s

/-- LD E,L (R130). -/
def execLdEL (s : State) : Out := loadR8 .e .l s

/-- LD E,A (R130). -/
def execLdEA (s : State) : Out := loadR8 .e .a s

/-- LD H,B (R130). -/
def execLdHB (s : State) : Out := loadR8 .h .b s

/-- LD H,C (R130). -/
def execLdHC (s : State) : Out := loadR8 .h .c s

/-- LD H,D (R130). -/
def execLdHD (s : State) : Out := loadR8 .h .d s

/-- LD H,E (R130). -/
def execLdHE (s : State) : Out := loadR8 .h .e s

/-- LD H,H (R130). -/
def execLdHH (s : State) : Out := loadR8 .h .h s

/-- LD H,L (R130). -/
def execLdHL (s : State) : Out := loadR8 .h .l s

/-- LD H,A (R130). -/
def execLdHA (s : State) : Out := loadR8 .h .a s

/-- LD L,B (R130). -/
def execLdLB (s : State) : Out := loadR8 .l .b s

/-- LD L,C (R130). -/
def execLdLC (s : State) : Out := loadR8 .l .c s

/-- LD L,D (R130). -/
def execLdLD (s : State) : Out := loadR8 .l .d s

/-- LD L,E (R130). -/
def execLdLE (s : State) : Out := loadR8 .l .e s

/-- LD L,H (R130). -/
def execLdLH (s : State) : Out := loadR8 .l .h s

/-- LD L,L (R130). -/
def execLdLL (s : State) : Out := loadR8 .l .l s

/-- LD L,A (R130). -/
def execLdLA (s : State) : Out := loadR8 .l .a s

/-- LD A,B (R130). -/
def execLdAB (s : State) : Out := loadR8 .a .b s

/-- LD A,C (R130). -/
def execLdAC (s : State) : Out := loadR8 .a .c s

/-- LD A,D (R130). -/
def execLdAD (s : State) : Out := loadR8 .a .d s

/-- LD A,E (R130). -/
def execLdAE (s : State) : Out := loadR8 .a .e s

/-- LD A,H (R130). -/
def execLdAH (s : State) : Out := loadR8 .a .h s

/-- LD A,L (R130). -/
def execLdAL (s : State) : Out := loadR8 .a .l s

/-- LD A,A (R130). -/
def execLdAA (s : State) : Out := loadR8 .a .a s

/-- LD B,d8 (R131). -/
def execLdBD8 (v : Byte) (s : State) : Out := loadImm .b v s

/-- LD C,d8 (R131). -/
def execLdCD8 (v : Byte) (s : State) : Out := loadImm .c v s

/-- LD D,d8 (R131). -/
def execLdDD8 (v : Byte) (s : State) : Out := loadImm .d v s

/-- LD E,d8 (R131). -/
def execLdED8 (v : Byte) (s : State) : Out := loadImm .e v s

/-- LD H,d8 (R131). -/
def execLdHD8 (v : Byte) (s : State) : Out := loadImm .h v s

/-- LD L,d8 (R131). -/
def execLdLD8 (v : Byte) (s : State) : Out := loadImm .l v s

/-- LD A,d8 (R131). -/
def execLdAD8 (v : Byte) (s : State) : Out := loadImm .a v s

/-- LD B,(HL) (R132). -/
def execLdBAtHl (s : State) : Out := loadR8 .b .atHl s

/-- LD C,(HL) (R132). -/
def execLdCAtHl (s : State) : Out := loadR8 .c .atHl s

/-- LD D,(HL) (R132). -/
def execLdDAtHl (s : State) : Out := loadR8 .d .atHl s

/-- LD E,(HL) (R132). -/
def execLdEAtHl (s : State) : Out := loadR8 .e .atHl s

/-- LD H,(HL) (R132). -/
def execLdHAtHl (s : State) : Out := loadR8 .h .atHl s

/-- LD L,(HL) (R132). -/
def execLdLAtHl (s : State) : Out := loadR8 .l .atHl s

/-- LD A,(HL) (R132). -/
def execLdAAtHl (s : State) : Out := loadR8 .a .atHl s

/-- LD (HL),B (R133). -/
def execLdAtHlB (s : State) : Out := loadR8 .atHl .b s

/-- LD (HL),C (R133). -/
def execLdAtHlC (s : State) : Out := loadR8 .atHl .c s

/-- LD (HL),D (R133). -/
def execLdAtHlD (s : State) : Out := loadR8 .atHl .d s

/-- LD (HL),E (R133). -/
def execLdAtHlE (s : State) : Out := loadR8 .atHl .e s

/-- LD (HL),H (R133). -/
def execLdAtHlH (s : State) : Out := loadR8 .atHl .h s

/-- LD (HL),L (R133). -/
def execLdAtHlL (s : State) : Out := loadR8 .atHl .l s

/-- LD (HL),A (R133). -/
def execLdAtHlA (s : State) : Out := loadR8 .atHl .a s

/-- LD (HL),d8 (R134). -/
def execLdAtHlD8 (v : Byte) (s : State) : Out := loadImm .atHl v s

/-- LD A,(BC) (R135). -/
def execLdAAtBc (s : State) : Out := loadA s.bc s

/-- LD A,(DE) (R135). -/
def execLdAAtDe (s : State) : Out := loadA s.de s

/-- LD (BC),A (R136). -/
def execLdAtBcA (s : State) : Out := storeA s.bc s

/-- LD (DE),A (R136). -/
def execLdAtDeA (s : State) : Out := storeA s.de s

/-- LD A,(HL+) (R137). -/
def execLdAAtHlInc (s : State) : Out := loadAThen (s.hl + 1) s

/-- LD A,(HL-) (R138). -/
def execLdAAtHlDec (s : State) : Out := loadAThen (s.hl - 1) s

/-- LD (HL+),A (R139). -/
def execLdAtHlIncA (s : State) : Out := storeAThen (s.hl + 1) s

/-- LD (HL-),A (R140). -/
def execLdAtHlDecA (s : State) : Out := storeAThen (s.hl - 1) s

/-- LD A,(a16) (R141). -/
def execLdAAtA16 (t : Word) (s : State) : Out := loadA t s

/-- LD (a16),A (R142). -/
def execLdAtA16A (t : Word) (s : State) : Out := storeA t s

/-- LDH A,(a8) (R143). -/
def execLdhAAtA8 (v : Byte) (s : State) : Out := loadA (highPage v) s

/-- LDH (a8),A (R144). -/
def execLdhAtA8A (v : Byte) (s : State) : Out := storeA (highPage v) s

/-- LD A,(C) (R145). -/
def execLdAAtC (s : State) : Out := loadA (highPage s.c) s

/-- LD (C),A (R146). -/
def execLdAtCA (s : State) : Out := storeA (highPage s.c) s

/-- LD BC,d16 (R148). -/
def execLdBcD16 (v : Word) (s : State) : Out := .next (s.setRp .bc v)

/-- LD DE,d16 (R148). -/
def execLdDeD16 (v : Word) (s : State) : Out := .next (s.setRp .de v)

/-- LD HL,d16 (R148). -/
def execLdHlD16 (v : Word) (s : State) : Out := .next (s.setRp .hl v)

/-- LD SP,d16 (R148). -/
def execLdSpD16 (v : Word) (s : State) : Out := .next (s.setRp .sp v)

end Sys2Proof.Machine
end

