-- ==== Sys2Proof/Machine/Stack.lean ====
section
/-! DEFINITION. The stack transfers and the copies of SP (spec/41_loads.md R147, R149 to R153). -/

namespace Sys2Proof.Machine

/-- PUSH of an `rp2` pair. -/
def pushPair (p : Rp2) (s : State) : Out := push (s.rp2 p) s .next

/-- POP of an `rp2` pair: the pair is written after both reads. -/
def popPair (p : Rp2) (s : State) : Out := pop s fun v s => .next (s.setRp2 p v)

/-- LD (a16),SP (R147). -/
def execLdAtA16Sp (t : Word) (s : State) : Out := writeWord t s.sp s .next

/-- LD SP,HL (R149). -/
def execLdSpHl (s : State) : Out := .next { s with sp := s.hl }

/-- PUSH BC (R150). -/
def execPushBc (s : State) : Out := pushPair .bc s

/-- PUSH DE (R150). -/
def execPushDe (s : State) : Out := pushPair .de s

/-- PUSH HL (R150). -/
def execPushHl (s : State) : Out := pushPair .hl s

/-- PUSH AF (R151). -/
def execPushAf (s : State) : Out := pushPair .af s

/-- POP BC (R152). -/
def execPopBc (s : State) : Out := popPair .bc s

/-- POP DE (R152). -/
def execPopDe (s : State) : Out := popPair .de s

/-- POP HL (R152). -/
def execPopHl (s : State) : Out := popPair .hl s

/-- POP AF (R153). -/
def execPopAf (s : State) : Out := popPair .af s

end Sys2Proof.Machine
end

