-- ==== Sys2Proof/Machine/System.lean ====
section
/-! DEFINITION. System instructions and the illegal opcodes (spec/46_system.md). -/

namespace Sys2Proof.Machine

/-- An illegal primary opcode (R265): there is no table entry, so `UnimplementedInstruction` is raised. The opcode byte has been
fetched, so it stands at the address before `pc`. -/
def illegal (op : Byte) (s : State) : Out :=
  raise (.unimplementedInstruction false op (s.pc - 1) (s.pc - 1)) s

/-- NOP (R260). -/
def execNop (s : State) : Out := .next s

/-- HALT (R261). -/
def execHalt (s : State) : Out := .next { s with halted := true }

/-- STOP (R262). -/
def execStop (_ignored : Byte) (s : State) : Out := .next { s with halted := true }

/-- DI (R263). -/
def execDi (s : State) : Out := .next { s with ime := false }

/-- EI (R264). -/
def execEi (s : State) : Out := .next { s with ime := true }

/-- ILLEGAL 0xD3 (R265). -/
def execIllegalD3 (s : State) : Out := illegal 0xD3#8 s

/-- ILLEGAL 0xDB (R265). -/
def execIllegalDB (s : State) : Out := illegal 0xDB#8 s

/-- ILLEGAL 0xDD (R265). -/
def execIllegalDD (s : State) : Out := illegal 0xDD#8 s

/-- ILLEGAL 0xE3 (R265). -/
def execIllegalE3 (s : State) : Out := illegal 0xE3#8 s

/-- ILLEGAL 0xE4 (R265). -/
def execIllegalE4 (s : State) : Out := illegal 0xE4#8 s

/-- ILLEGAL 0xEB (R265). -/
def execIllegalEB (s : State) : Out := illegal 0xEB#8 s

/-- ILLEGAL 0xEC (R265). -/
def execIllegalEC (s : State) : Out := illegal 0xEC#8 s

/-- ILLEGAL 0xED (R265). -/
def execIllegalED (s : State) : Out := illegal 0xED#8 s

/-- ILLEGAL 0xF4 (R265). -/
def execIllegalF4 (s : State) : Out := illegal 0xF4#8 s

/-- ILLEGAL 0xFC (R265). -/
def execIllegalFC (s : State) : Out := illegal 0xFC#8 s

/-- ILLEGAL 0xFD (R265). -/
def execIllegalFD (s : State) : Out := illegal 0xFD#8 s

end Sys2Proof.Machine
end

