-- ==== Sys2Proof/Machine/Display.lean ====
section
/-! DEFINITION. The Display Unit: its scanline renderer and its timing machine (spec/60_exceptions.md R320 to R335). -/

namespace Sys2Proof.Machine

/-! ## The framebuffer (spec/10_state.md R41) -/

/-- A row of 160 zeros: what a row that is not listed reads as. -/
def blankRow : Row := List.replicate 160 0#2

/-- The framebuffer's canonical form: rows strictly rising, none blank, each of the 144 rows' numbers and 160 pixels wide. -/
def Framebuffer.wf (fb : Framebuffer) : Bool :=
  Sparse.wf blankRow fb && fb.all fun row => decide (row.1 < 144) && decide (row.2.length = 160)

/-- The row `y`. -/
def Framebuffer.row (fb : Framebuffer) (y : Nat) : Row := Sparse.get blankRow fb y

/-- The framebuffer with row `y` written. -/
def Framebuffer.setRow (fb : Framebuffer) (y : Nat) (r : Row) : Framebuffer := Sparse.set blankRow fb y r

/-- `fb[x][y]`. -/
def Display.pixel (d : Display) (x y : Nat) : Shade := (d.fb.row y).getD x 0#2

/-! ## The scanline renderer (R330 to R335) -/

/-- The tilemap's base address (R330). -/
def Display.mapBase (d : Display) : Nat := if d.lcdc.getLsbD 3 then 0x9C00 else 0x9800

/-- `tileAddr(t)`, the address of a tile's 16 bytes: unsigned from 0x8000 or signed from 0x9000 (R330). -/
def Display.tileAddr (d : Display) (t : Byte) : Nat :=
  if d.lcdc.getLsbD 4 then 0x8000 + 16 * t.toNat else (0x9000 + 16 * t.toInt).toNat

/-- The background line shown on the current scanline (R331). -/
def Display.bgLine (d : Display) : Nat := (d.scanline + d.scy.toNat) % 256

/-- The tile index at a tilemap row and column (R331). A VRAM byte's key in memory is its address. -/
def Display.mapEntry (d : Display) (mem : Memory) (row col : Nat) : Byte := mem.read (d.mapBase + 32 * row + col)

/-- The shade of a colour index (R332). -/
def Display.shade (d : Display) (idx : Nat) : Shade := BitVec.ofNat 2 (d.bgp.toNat >>> (2 * idx))

/-- The colour index of pixel `x` of row `y` of the tile `t`: its bit is `7 - x`, the second byte's the high one (R333). -/
def Display.colourIndex (d : Display) (mem : Memory) (t : Byte) (y x : Nat) : Nat :=
  let a := d.tileAddr t + 2 * y
  2 * ((mem.read (a + 1)).getLsbD (7 - x)).toNat + ((mem.read a).getLsbD (7 - x)).toNat

/-- The loop of `renderScanline` from a pixel on (R333): `n` pixels are left, `x` is the place in the tile `t` of column
`col`. -/
def Display.renderPixels (d : Display) (mem : Memory) (row y : Nat) : Nat → Nat → Nat → Byte → Row
  | 0, _, _, _ => []
  | n + 1, x, col, t =>
    d.shade (d.colourIndex mem t y x) ::
      (if x + 1 = 8 then
        d.renderPixels mem row y n 0 ((col + 1) % 32) (d.mapEntry mem row ((col + 1) % 32))
      else d.renderPixels mem row y n (x + 1) col t)

/-- The row of pixels the renderer makes of the current scanline (R331, R333). -/
def Display.renderRow (d : Display) (mem : Memory) : Row :=
  let row := d.bgLine / 8
  let col := d.scx.toNat / 8
  d.renderPixels mem row (d.bgLine % 8) 160 (d.scx.toNat % 8) col (d.mapEntry mem row col)

/-- `renderScanline()` (R333): the row written is `scanline`. -/
def Display.renderScanline (d : Display) (mem : Memory) : Display :=
  { d with fb := d.fb.setRow d.scanline (d.renderRow mem) }

/-! ## The timing machine (R320 to R327) -/

/-- The budget of a mode in display cycles; VBlank's is that of one line (spec/00_scope.md R8). -/
def Mode.budget : Mode → Nat
  | .oamScan  => 80
  | .vramRead => 172
  | .hBlank   => 204
  | .vBlank   => 456

/-- The source's numbers for the modes (spec/10_state.md R33). -/
def Mode.code : Mode → BitVec 2
  | .hBlank   => 0#2
  | .vBlank   => 1#2
  | .oamScan  => 2#2
  | .vramRead => 3#2

/-- R321. -/
def Display.completeOamScan (d : Display) : Display := { d with mode := .vramRead, modeClock := 0 }

/-- R322. -/
def Display.completeVramRead (d : Display) (mem : Memory) : Display :=
  { d.renderScanline mem with mode := .hBlank, modeClock := 0 }

/-- R323, R327: entering VBlank counts a frame and fires the notification. -/
def Display.completeHBlank (d : Display) : Display × List Event :=
  if d.scanline + 1 = 143 then
    ({ d with mode := .vBlank, modeClock := 0, scanline := d.scanline + 1, frames := d.frames + 1 }, [.frameReady])
  else ({ d with mode := .oamScan, modeClock := 0, scanline := d.scanline + 1 }, [])

/-- R324. -/
def Display.completeVBlank (d : Display) : Display :=
  if d.scanline + 1 > 153 then { d with mode := .oamScan, modeClock := 0, scanline := 0 }
  else { d with modeClock := 0, scanline := d.scanline + 1 }

/-- `advance(n)` (R320): at most one mode completes, and the excess over its budget is dropped. With the display after it
go the notifications it fired. -/
def Display.advance (d : Display) (mem : Memory) (n : Nat) : Display × List Event :=
  let d := { d with modeClock := d.modeClock + n }
  if d.modeClock < d.mode.budget then (d, [])
  else
    match d.mode with
    | .oamScan  => (d.completeOamScan, [])
    | .vramRead => (d.completeVramRead mem, [])
    | .hBlank   => d.completeHBlank
    | .vBlank   => (d.completeVBlank, [])

end Sys2Proof.Machine
end

