-- ==== Sys2Proof/Machine/Engine.lean ====
section
/-! DEFINITION. The Execution Engine's loop (spec/40_step_and_dispatch.md R100 to R104, R107, R119): fetching, looking up an
entry, charging its cost. `stepWith` takes the configuration as an argument; Step.lean fixes it. -/

namespace Sys2Proof.Machine

/-! ## Fetching (spec/00_scope.md R14) -/

/-- `fetch8()`. -/
def fetch8 (s : State) (next : Byte → State → Out) : Out :=
  readByte .fetch s.pc s fun v => next v { s with pc := s.pc + 1 }

/-- `fetch16()`: the low byte first. -/
def fetch16 (s : State) (next : Word → State → Out) : Out :=
  fetch8 s fun lo s => fetch8 s fun hi s => next (joinBytes hi lo) s

/-! ## Charging a step's cost -/

/-- The clocks, the display and the conditional-not-taken flag at the end of a step of a given cost (R102, R103). The
events are those this step's `advance` fired (spec/60_exceptions.md R327). -/
def tick (cost : Byte) (s : State) : State :=
  let quarter := cost.toNat / 4
  let r := s.display.advance s.mem quarter
  { s with
    clkCoarse := s.clkCoarse + BitVec.ofNat 8 quarter
    clkFine := s.clkFine + cost
    display := r.1
    events := r.2
    notTaken := false }

/-- `selectCost` (R101). -/
def selectCost (p : CostPair) (s : State) : Byte := if s.notTaken then p.reduced else p.base

/-- What follows a handler: a completed one is charged; one that raised a condition is not (spec/60_exceptions.md R302). -/
def settle (p : CostPair) : Out → Out
  | .next s => .next (tick (selectCost p s) s)
  | .fault r => .fault r
  | .refused r => .refused r

/-- A halted step (R104). -/
def haltedStep (s : State) : State := tick 4#8 s

/-! ## The step -/

/-- The unmapping of the boot overlay, before the fetch (R107). -/
def bootUnmapCheck (s : State) : State :=
  if s.bootActive = true ∧ s.pc.toNat ≥ 0x0100 then { s with bootActive := false } else s

/-- The entry lookup (R119): an absent entry raises before any handler effect; a present one's handler runs and its cost is
charged. -/
def enter (cfg : Config) (escaped : Bool) (key : Byte) (opAddr instrAddr : Word) (s : State)
    (handler : State → Out) : Out :=
  if cfg.impl escaped key then settle (cfg.cost escaped key) (handler s)
  else raise (.unimplementedInstruction escaped key opAddr instrAddr) s

/-- Fetch, look up and run one instruction (R100). The immediates are fetched after the lookup and before the handler's own
accesses, as each handler does first of all (spec/30_encoding.md R99). -/
def runInstruction (cfg : Config) (s : State) : Out :=
  let instrAddr := s.pc
  fetch8 s fun op s =>
    match primary op with
    | .escape => fetch8 s fun key s => enter cfg true key (instrAddr + 1) instrAddr s (exec (extended key))
    | .plain i => enter cfg false op instrAddr instrAddr s (exec i)
    | .imm8 f => enter cfg false op instrAddr instrAddr s fun s => fetch8 s fun v s => exec (f v) s
    | .imm16 f => enter cfg false op instrAddr instrAddr s fun s => fetch16 s fun v s => exec (f v) s

/-- `step()` under a configuration (R100). After a fatal condition there is no further step: the same fault is answered and
the state does not change (spec/60_exceptions.md R302). -/
def stepWith (cfg : Config) (s : State) : Out :=
  match s.fault with
  | some c => .fault (.fatal c s)
  | none =>
    let s := bootUnmapCheck s
    if s.halted then .next (haltedStep s) else runInstruction cfg s

/-! ## Placing a program -/

/-- The state with bytes stored from an address on, as the loader leaves them before a run (spec/70_reset_and_hazards.md
R354); a byte whose address is unmapped is dropped. -/
def State.placeBytes (s : State) (addr : Word) : List Byte → State
  | [] => s
  | v :: vs => ((s.poke addr v).getD s).placeBytes (addr + 1) vs

end Sys2Proof.Machine
end

