-- ==== Sys2Proof/Machine/Step.lean ====
section
/-! DEFINITION. The step under the standard configuration, and the placing of one instruction where it fetches. -/

namespace Sys2Proof.Machine

/-- One call of `step()` (spec/40_step_and_dispatch.md R100). -/
def step (s : State) : Host.Outcome State Fault Refusal := stepWith Config.standard s

/-- `s` with the bytes of a table word stored where the next step fetches: at `pc`, seen as that step's fetch sees memory, the
boot overlay already unmapped if it is about to be. -/
def State.withFetchWord (s : State) (nbits w : Nat) : State :=
  (bootUnmapCheck s).placeBytes s.pc (tableWordBytes nbits w)

end Sys2Proof.Machine
end

