-- ==== Sys2Proof/Machine/Introspect.lean ====
section
/-! DEFINITION. What the host may read between steps (spec/10_state.md R44, spec/70_reset_and_hazards.md R359), and the numbers of
the fatal conditions (spec/60_exceptions.md R300). Reading changes nothing: each is a function of the state. -/

namespace Sys2Proof.Machine

/-- The read-only introspection set of R44, the framebuffer apart. -/
structure Introspection where
  pc : Word
  sp : Word
  a : Byte
  b : Byte
  c : Byte
  d : Byte
  e : Byte
  h : Byte
  l : Byte
  clkCoarse : Byte
  clkFine : Byte
  flags : Flags
  scx : Byte
  scy : Byte
  lcdc : Byte
  bgp : Byte
  mode : BitVec 2
  scanline : Nat
  modeClock : Nat
  deriving DecidableEq, Repr

/-- The introspection set of a state. -/
def State.introspect (s : State) : Introspection where
  pc := s.pc
  sp := s.sp
  a := s.a
  b := s.b
  c := s.c
  d := s.d
  e := s.e
  h := s.h
  l := s.l
  clkCoarse := s.clkCoarse
  clkFine := s.clkFine
  flags := s.flags
  scx := s.display.scx
  scy := s.display.scy
  lcdc := s.display.lcdc
  bgp := s.display.bgp
  mode := s.display.mode.code
  scanline := s.display.scanline
  modeClock := s.display.modeClock

/-- `fb[x][y]`, which the host may read at any time. -/
def State.pixel (s : State) (x y : Nat) : Shade := s.display.pixel x y

/-- The code of a fatal condition (R300). -/
def FatalCondition.code : FatalCondition → Nat
  | .unimplementedInstruction _ _ _ _ => 0
  | .invalidMemoryAccess _ _ => 1

end Sys2Proof.Machine
end

