-- ==== Sys2Proof/Machine/Reset.lean ====
section
/-! DEFINITION. Reset with its arguments (spec/00_scope.md R9, spec/70_reset_and_hazards.md R350, R354): the draws INIT_REGS and
INIT_MEM and the two images. `State.reset` is the reset with the default arguments. -/

namespace Sys2Proof.Machine

/-- INIT_REGS: the values of A to L, SP and the flags after reset, which the spec leaves unspecified. -/
structure InitRegs where
  a : Byte := 0#8
  b : Byte := 0#8
  c : Byte := 0#8
  d : Byte := 0#8
  e : Byte := 0#8
  h : Byte := 0#8
  l : Byte := 0#8
  sp : Word := 0#16
  flags : Flags := ⟨false, false, false, false⟩
  deriving DecidableEq, Repr

/-- What a reset takes. -/
structure ResetArgs where
  /-- INIT_REGS. -/
  regs : InitRegs := {}
  /-- INIT_MEM: the bytes that differ from `Config.initByte`, in canonical form. -/
  initMem : Memory := []
  /-- ROM_IMAGE. -/
  rom : List Byte := []
  /-- BOOT_IMAGE, which may be absent. -/
  boot : Option (List Byte) := none
  deriving DecidableEq, Repr

/-- An image copied to consecutive keys. -/
def Memory.load (m : Memory) (key : Nat) : List Byte → Memory
  | [] => m
  | v :: vs => (m.write key v).load (key + 1) vs

/-- The state a reset builds once its images are admitted (R350). -/
def State.afterReset (r : InitRegs) (mem : Memory) (overlay : Bool) : State :=
  { State.reset with
    a := r.a, b := r.b, c := r.c, d := r.d, e := r.e, h := r.h, l := r.l
    sp := r.sp
    flags := r.flags
    pc := if overlay then 0x0000#16 else 0x0100#16
    bootActive := overlay
    mem := mem }

/-- Reset (R350 to R354): an image outside its bounds is refused, never truncated. -/
def State.resetWith (args : ResetArgs) : Out :=
  if args.rom.length > Region.rom.size then .refused (.romImageTooLong args.rom.length)
  else
    let mem := args.initMem.load Region.rom.base args.rom
    match args.boot with
    | none => .next (.afterReset args.regs mem false)
    | some image =>
      if image.length ≠ Region.boot.size then .refused (.bootImageNot256 image.length)
      else .next (.afterReset args.regs (mem.load Region.boot.base image) true)

end Sys2Proof.Machine
end

