-- ==== Sys2Proof/Safety.lean ====
section
/-! DEFINITION. What a good state and a safe run are, and the terms the statements are written in: each formula here is the
spec's, written a second time and apart from the machine's own. -/

namespace Sys2Proof.Machine

/-! ## Good states and safe runs -/

/-- The timing state is one a run can be in between steps (spec/10_state.md R34, R35; spec/60_exceptions.md R320 to R325):
VBlank is shown exactly on lines 143 to 153, and the mode clock is below the mode's budget. -/
structure Display.Timed (d : Display) : Prop where
  scanline : d.scanline ≤ 153
  vBlank : d.mode = .vBlank ↔ 143 ≤ d.scanline
  modeClock : d.modeClock < d.mode.budget

/-- The invariant of a machine that has not stopped, between steps: memory and framebuffer in canonical form, the timing
state in range, the conditional-not-taken flag clear (spec/10_state.md R24), no fault recorded (R29). -/
structure State.Inv (s : State) : Prop where
  memory : s.mem.wf = true
  framebuffer : s.display.fb.wf = true
  timed : s.display.Timed
  notTaken : s.notTaken = false
  fault : s.fault = none

/-- The run from `s` makes `n` steps and has not stopped. -/
def SafeFor (cfg : Config) : Nat → State → Prop
  | 0, _ => True
  | n + 1, s => ∃ t, stepWith cfg s = .next t ∧ SafeFor cfg n t

/-- The next step fetches an instruction: no fault is recorded and the engine is not halted (spec/40_step_and_dispatch.md
R100). -/
structure State.Running (s : State) : Prop where
  fault : s.fault = none
  halted : s.halted = false

/-- The answer of a step that stopped: the fatal condition, and the state as it stood when it was raised with the condition
recorded in it (spec/60_exceptions.md R302). -/
def stoppedAt (c : FatalCondition) (s : State) : Out := .fault (.fatal c { s with fault := some c })

/-! ## Encodings and costs -/

/-- The opcode byte with the fields x, y and z (spec/30_encoding.md R81, R82). -/
def opcode (x : BitVec 2) (y z : BitVec 3) : Byte := x ++ y ++ z

/-- The opcode byte with the fields x, p, q and z (spec/30_encoding.md R81). -/
def opcodePq (x p : BitVec 2) (q : BitVec 1) (z : BitVec 3) : Byte := x ++ p ++ q ++ z

/-- The bytes are the instruction's encoding: it encodes to them and they decode to it. -/
abbrev HasEncoding (i : Instr) (bytes : List Byte) : Prop := encode i = bytes ∧ decode bytes = .ok (i, [])

/-- The opcode has an entry in its table by default, with these costs (spec/70_reset_and_hazards.md R366). -/
abbrev HasCost (escaped : Bool) (key : Byte) (base reduced : Nat) : Prop :=
  Config.standard.impl escaped key = true ∧
    Config.standard.cost escaped key = ⟨BitVec.ofNat 8 base, BitVec.ofNat 8 reduced⟩

/-- The eleven illegal primary opcodes (spec/30_encoding.md R95). -/
def illegalOpcodes : List Byte :=
  [0xD3#8, 0xDB#8, 0xDD#8, 0xE3#8, 0xE4#8, 0xEB#8, 0xEC#8, 0xED#8, 0xF4#8, 0xFC#8, 0xFD#8]

/-- The bytes stand at consecutive addresses from `addr` on. -/
def State.holdsBytes (s : State) (addr : Word) (bytes : List Byte) : Prop :=
  ∀ k, k < bytes.length → s.peek (addr + BitVec.ofNat 16 k) = bytes[k]?

/-- A step at an opcode with `n` immediate bytes stops at the first of them that cannot be fetched, `pc` at that byte and
nothing else changed (spec/00_scope.md R14, spec/60_exceptions.md R302). -/
def ImmediateFetchStops (op : Byte) (n : Nat) : Prop :=
  ∀ (s : State) (k : Nat), s.Running → k < n → (bootUnmapCheck s).peek s.pc = some op →
    (∀ j, j < k → (bootUnmapCheck s).peek (s.pc + 1 + BitVec.ofNat 16 j) ≠ none) →
    (bootUnmapCheck s).peek (s.pc + 1 + BitVec.ofNat 16 k) = none →
    step s = stoppedAt (.invalidMemoryAccess (s.pc + 1 + BitVec.ofNat 16 k) .fetch)
      { bootUnmapCheck s with pc := s.pc + 1 + BitVec.ofNat 16 k }

/-! ## Charging a step (spec/40_step_and_dispatch.md R102, R103) -/

/-- The state after a step's cost is charged. -/
def State.charged (cost : Byte) (s : State) : State :=
  { s with
    clkCoarse := BitVec.ofNat 8 (s.clkCoarse.toNat + cost.toNat / 4)
    clkFine := BitVec.ofNat 8 (s.clkFine.toNat + cost.toNat)
    display := (s.display.advance s.mem (cost.toNat / 4)).1
    events := (s.display.advance s.mem (cost.toNat / 4)).2
    notTaken := false }

/-! ## The flag formulas (spec/40_step_and_dispatch.md R110 to R114) -/

/-- A flag as a number. -/
def num (b : Bool) : Nat := if b then 1 else 0

/-- The flags of an addition of two bytes and a carry (R110). -/
def addFlags (a v : Byte) (cin : Nat) : Flags where
  z := decide ((a.toNat + v.toNat + cin) % 256 = 0)
  n := false
  h := decide (a.toNat % 16 + v.toNat % 16 + cin ≥ 16)
  c := decide (a.toNat + v.toNat + cin ≥ 256)

/-- The flags of a subtraction of a byte and a borrow from a byte (R111). -/
def subFlags (a v : Byte) (bin : Nat) : Flags where
  z := decide (a - v - BitVec.ofNat 8 bin = 0#8)
  n := true
  h := decide (a.toNat % 16 < v.toNat % 16 + bin)
  c := decide (a.toNat < v.toNat + bin)

/-- The value of a rotate or shift of the extended table (spec/45_cb_prefixed.md R230 to R244). -/
def rotValue (op : RotOp) (v : Byte) (carry : Bool) : Byte :=
  match op with
  | .rlc  => v.rotateLeft 1
  | .rrc  => v.rotateRight 1
  | .rl   => BitVec.ofNat 8 (2 * v.toNat + num carry)
  | .rr   => BitVec.ofNat 8 (v.toNat / 2 + 128 * num carry)
  | .sla  => BitVec.ofNat 8 (2 * v.toNat)
  | .sra  => BitVec.ofInt 8 (v.toInt / 2)
  | .swap => v.rotateLeft 4
  | .srl  => BitVec.ofNat 8 (v.toNat / 2)

/-- The carry of a rotate or shift of the extended table: the bit that leaves at its end; none leaves in SWAP. -/
def rotCarry (op : RotOp) (v : Byte) : Bool :=
  match op with
  | .rlc | .rl | .sla => decide (v.toNat ≥ 128)
  | .rrc | .rr | .sra | .srl => decide (v.toNat % 2 = 1)
  | .swap => false

/-- The two binary-coded decimal digits of a number below 100. -/
def bcd (n : Nat) : Byte := BitVec.ofNat 8 (16 * (n / 10) + n % 10)

/-! ## The Display Unit -/

/-- The display after `k` advances of `n` cycles, memory during the j-th being `mems j`. -/
def Display.advances (mems : Nat → Memory) (n : Nat) : Nat → Display → Display
  | 0, d => d
  | k + 1, d => ((Display.advances mems n k d).advance (mems k) n).1

/-- The shade the renderer gives to pixel `px` of a scanline, in closed form (spec/60_exceptions.md R330 to R333): the
horizontal position in the background is `SCX mod 8 + px` from the tile column `SCX div 8` on. -/
def Display.shadeAt (d : Display) (vram : Nat → Byte) (px : Nat) : Shade :=
  let ly := (d.scanline + d.scy.toNat) % 256
  let x := d.scx.toNat % 8 + px
  let col := (d.scx.toNat / 8 + x / 8) % 32
  let map := if d.lcdc.getLsbD 3 then 0x9C00 else 0x9800
  let t := vram (map + 32 * (ly / 8) + col)
  let tile : Int := if d.lcdc.getLsbD 4 then 0x8000 + 16 * (t.toNat : Int) else 0x9000 + 16 * t.toInt
  let lo := vram (tile.toNat + 2 * (ly % 8))
  let hi := vram (tile.toNat + 2 * (ly % 8) + 1)
  let idx := 2 * num (hi.getLsbD (7 - x % 8)) + num (lo.getLsbD (7 - x % 8))
  BitVec.ofNat 2 (d.bgp.toNat / 4 ^ idx)

/-! ## Reset -/

/-- What a reset with arguments builds, `mem` apart: the drawn registers, SP and flags, execution at the boot image or the
cartridge, and every other field as `State.reset` has it (spec/70_reset_and_hazards.md R350; `ResetState` says what those
are). -/
def ResetArgs.Builds (args : ResetArgs) (overlay : Bool) (s : State) : Prop :=
  s = { State.reset with
    a := args.regs.a, b := args.regs.b, c := args.regs.c, d := args.regs.d, e := args.regs.e, h := args.regs.h
    l := args.regs.l, sp := args.regs.sp, flags := args.regs.flags
    pc := if overlay then 0x0000#16 else 0x0100#16
    bootActive := overlay
    mem := s.mem }

end Sys2Proof.Machine

namespace Sys2Proof

open Sys2Proof.Machine

/-! ## What an instruction costs and writes -/

/-- Where an instruction's cost stands: whether its opcode follows the escape, and the opcode. -/
def Instr.key (i : Instr) : Bool × Byte :=
  match encode i with
  | [] => (false, 0#8)
  | op :: rest => if op = 0xCB#8 then (true, rest.headD 0#8) else (false, op)

/-- The costs of an instruction by default. -/
def Instr.costs (i : Instr) : CostPair := Config.standard.cost i.key.1 i.key.2

/-- The instruction writes a flag: the "Flags" line of its rule names one (spec/40_step_and_dispatch.md R117). -/
def Instr.WritesFlags (i : Instr) : Prop :=
  (∃ op z, i = .alu op z) ∨ (∃ op v, i = .aluImm op v) ∨ (∃ z, i = .inc z) ∨ (∃ z, i = .dec z) ∨
  (∃ y, i = .accumulator y) ∨ (∃ p, i = .addHl p) ∨ (∃ e, i = .addSpE8 e) ∨ (∃ e, i = .ldHlSpE8 e) ∨
  i = .popAf ∨ (∃ op z, i = .rot op z) ∨ (∃ b z, i = .testBit b z)

/-- A conditional transfer and its condition (spec/44_control.md R211, R214, R216, R218). -/
def Instr.IsConditional (i : Instr) (cc : Cond) : Prop :=
  (∃ e, i = .jr cc e) ∨ (∃ t, i = .jp cc t) ∨ (∃ t, i = .call cc t) ∨ i = .retIf cc

/-- In the state `s` the instruction calls `target`: CALL, CALL cc with its condition true, RST (spec/44_control.md R215, R216,
R219). -/
def Instr.Calls (i : Instr) (target : Word) (s : State) : Prop :=
  i = .callA16 target ∨ (∃ y : BitVec 2, i = .call (.ofField y) target ∧ s.holds (.ofField y) = true) ∨
  (∃ y : BitVec 3, i = .rst y ∧ target = BitVec.ofNat 16 (y.toNat * 8))

/-- In the state `s` the instruction returns, and does nothing more: RET, RET cc with its condition true (spec/44_control.md R217,
R218). -/
def Instr.Returns (i : Instr) (s : State) : Prop :=
  i = .ret ∨ ∃ y : BitVec 2, i = .retIf (.ofField y) ∧ s.holds (.ofField y) = true

/-- The addresses an instruction stores to, with the expressions its meaning uses. -/
def Instr.StoresTo (i : Instr) (s : State) (addr : Word) : Prop :=
  (∃ z, z ≠ .atHl ∧ i = .ld .atHl z ∧ addr = s.hl) ∨
  (∃ v, i = .ldAtHlD8 v ∧ addr = s.hl) ∨
  (i = .ldAtBcA ∧ addr = s.bc) ∨ (i = .ldAtDeA ∧ addr = s.de) ∨
  ((i = .ldAtHlIncA ∨ i = .ldAtHlDecA) ∧ addr = s.hl) ∨
  (∃ t, i = .ldAtA16A t ∧ addr = t) ∨
  (∃ n, i = .ldhAtA8A n ∧ addr = highPage n) ∨
  (i = .ldAtCA ∧ addr = highPage s.c) ∨
  (∃ t, i = .ldAtA16Sp t ∧ (addr = t ∨ addr = t + 1)) ∨
  ((i = .incAtHl ∨ i = .decAtHl) ∧ addr = s.hl) ∨
  (∃ op, i = .rot op .atHl ∧ addr = s.hl) ∨
  (∃ b, (i = .resetBit b .atHl ∨ i = .setBit b .atHl) ∧ addr = s.hl) ∨
  (((∃ p, i = .push p) ∨ (∃ t, i = .callA16 t) ∨ (∃ y, i = .rst y) ∨
    (∃ cc t, i = .call cc t ∧ s.holds cc = true)) ∧ (addr = s.sp - 1 ∨ addr = s.sp - 2))

end Sys2Proof
end

