-- ==== Sys2Proof/Certificates/Slice0/Obligations.lean ====
section
/-! DEFINITION. The statements for the provers. Each docstring names the rules of spec/ it formalises. Where a statement uses
`State.peek`, `State.poke`, `State.r8`, `State.setR8`, `State.rp`, `State.setRp`, `State.rp2`, `State.setRp2` or `State.holds`, what
these are is stated by `OperandFields`, `PairAndFlagByteAccess` and the memory statements. -/

open Sys2Proof Sys2Proof.Machine

/-! ## Encoding -/

/-- Decoding an encoded instruction gives it back, at every value of its operands, whatever bytes follow
(spec/30_encoding.md R80, R90 to R95). The illegal opcodes, whose rows are constructors too, are included. -/
def Obligations.DecodeInvertsEncode : Prop :=
  ∀ (i : Instr) (rest : List Byte), decode (encode i ++ rest) = .ok (i, rest)

/-- Each list of bytes has one meaning: what is decoded from it encodes to its front (spec/30_encoding.md R80, R98). -/
def Obligations.EncodeInvertsDecode : Prop :=
  ∀ (bytes : List Byte) (i : Instr) (rest : List Byte), decode bytes = .ok (i, rest) → bytes = encode i ++ rest

/-- The instructions without a table entry are the eleven illegal opcodes and no others, and the default IMPL holds every other
primary opcode, the escape and all extended ones (spec/30_encoding.md R95, spec/40_step_and_dispatch.md R119). -/
def Obligations.IllegalOpcodesAreTheElevenHoles : Prop :=
  (∀ i : Instr, ¬ WellFormed i ↔ ∃ op, op ∈ illegalOpcodes ∧ encode i = [op]) ∧
  (∀ op : Byte, Config.standard.impl false op = true ↔ op ∉ illegalOpcodes) ∧
  (∀ key : Byte, Config.standard.impl true key = true) ∧
  (∀ i : Instr, WellFormed i → Config.standard.impl i.key.1 i.key.2 = true)

/-- Words written out from the maps of spec/30_encoding.md decode to the instruction they stand for, one of each family; the
escape byte alone decodes to nothing, whatever instruction and rest are asked for (R98). -/
def Obligations.DecodeOfWrittenOutWords : Prop :=
  decode [0x00#8] = .ok (.nop, []) ∧
  decode [0x08#8, 0x34#8, 0x12#8] = .ok (.ldAtA16Sp 0x1234#16, []) ∧
  decode [0x18#8, 0xFE#8] = .ok (.jrE8 0xFE#8, []) ∧
  decode [0x31#8, 0xFE#8, 0xFF#8] = .ok (.ldSpD16 0xFFFE#16, []) ∧
  decode [0x3A#8] = .ok (.ldAAtHlDec, []) ∧
  decode [0x66#8] = .ok (.ldHAtHl, []) ∧
  decode [0x74#8] = .ok (.ldAtHlH, []) ∧
  decode [0x76#8] = .ok (.halt, []) ∧
  decode [0x9E#8] = .ok (.sbcAAtHl, []) ∧
  decode [0xD6#8, 0x01#8] = .ok (.subD8 0x01#8, []) ∧
  decode [0xE0#8, 0x47#8] = .ok (.ldhAtA8A 0x47#8, []) ∧
  decode [0xF5#8] = .ok (.pushAf, []) ∧
  decode [0xD9#8] = .ok (.reti, []) ∧
  decode [0xDC#8, 0x00#8, 0xC0#8] = .ok (.callCA16 0xC000#16, []) ∧
  decode [0xCB#8, 0x37#8] = .ok (.cbSwapA, []) ∧
  decode [0xCB#8, 0x7C#8] = .ok (.bit7H, []) ∧
  decode [0xCB#8, 0x8E#8] = .ok (.res1AtHl, []) ∧
  decode [0xCB#8, 0xCB#8] = .ok (.set1E, []) ∧
  decode [0xFD#8] = .ok (.illegalFD, []) ∧
  (∀ (i : Instr) (rest : List Byte), decode [0xCB#8] ≠ .ok (i, rest))

/-! ## The step -/

/-- A step runs the decoded instruction: where the bytes at `pc` decode to a well-formed instruction, the step is `exec` of it with
`pc` past its bytes, and its cost charged to a completed one (spec/40_step_and_dispatch.md R100 to R103, R107). -/
def Obligations.StepRunsDecodedInstruction : Prop :=
  ∀ (s : State) (bytes : List Byte) (i : Instr),
    s.Running → (bootUnmapCheck s).holdsBytes s.pc bytes → decode bytes = .ok (i, []) → WellFormed i →
    (∀ t, exec i { bootUnmapCheck s with pc := s.pc + BitVec.ofNat 16 bytes.length } = .next t →
      step s = .next (t.charged (if t.notTaken then i.costs.reduced else i.costs.base))) ∧
    (∀ f, exec i { bootUnmapCheck s with pc := s.pc + BitVec.ofNat 16 bytes.length } = .fault f → step s = .fault f) ∧
    (∀ r, exec i { bootUnmapCheck s with pc := s.pc + BitVec.ofNat 16 bytes.length } ≠ .refused r)

/-- A halted step fetches nothing and only counts time: cost 4, one display cycle, under every configuration
(spec/40_step_and_dispatch.md R104). -/
def Obligations.HaltedStepOnlyCountsTime : Prop :=
  ∀ (cfg : Config) (s : State), s.fault = none → s.halted = true →
    stepWith cfg s = .next ((bootUnmapCheck s).charged 4#8) ∧
    (s.charged 4#8).clkCoarse = s.clkCoarse + 1 ∧ (s.charged 4#8).clkFine = s.clkFine + 4 ∧
    (s.charged 4#8).display = (s.display.advance s.mem 1).1

/-- Nothing wakes a halted core: after any number of steps it has not stopped, stands at the same `pc` and has the same
registers and memory (spec/46_system.md R261, spec/60_exceptions.md R312). -/
def Obligations.HaltedMachineStaysHalted : Prop :=
  ∀ (n : Nat) (s : State), s.fault = none → s.halted = true →
    ∃ t : State, Host.Core.run core n s = .next t ∧ t.halted = true ∧ t.fault = none ∧ t.pc = s.pc ∧ t.sp = s.sp ∧
      t.a = s.a ∧ t.b = s.b ∧ t.c = s.c ∧ t.d = s.d ∧ t.e = s.e ∧ t.h = s.h ∧ t.l = s.l ∧ t.flags = s.flags ∧
      t.ime = s.ime ∧ t.mem = s.mem

/-- The boot overlay is unmapped before the fetch of the first step whose `pc` is at or above 0x0100, stays mapped below it, and
is never mapped again (spec/40_step_and_dispatch.md R107). -/
def Obligations.BootOverlayUnmapsBeforeFetch : Prop :=
  ∀ (cfg : Config) (s : State), s.fault = none →
    (0x0100 ≤ s.pc.toNat → stepWith cfg s = stepWith cfg { s with bootActive := false }) ∧
    (∀ t, stepWith cfg s = .next t → t.bootActive = (s.bootActive && decide (s.pc.toNat < 0x0100))) ∧
    (∀ c t, stepWith cfg s = .fault (.fatal c t) → t.bootActive = (s.bootActive && decide (s.pc.toNat < 0x0100)))

/-- A step answers a next state without a fault or a fatal condition recorded in the state it leaves; from that state every
later step changes nothing and answers the same (spec/60_exceptions.md R302, spec/70_reset_and_hazards.md R357). -/
def Obligations.StepCompletesOrStaysStopped : Prop :=
  ∀ (cfg : Config) (s : State),
    (∃ t, stepWith cfg s = .next t ∧ s.fault = none ∧ t.fault = none) ∨
    (∃ c t, stepWith cfg s = .fault (.fatal c t) ∧ t.fault = some c ∧
      ∀ cfg', stepWith cfg' t = .fault (.fatal c t))

/-- A step that stops charges nothing: the clocks, the display's timing, the picture and the frame count stand, and the
conditional-not-taken flag is not cleared (spec/60_exceptions.md R302, spec/40_step_and_dispatch.md R120). That the field of
the latest step's output events stands too is no rule of the spec but the model's choice (DESIGN CHOICE, log entry 6). -/
def Obligations.StoppedStepChargesNothing : Prop :=
  ∀ (cfg : Config) (s : State) (c : FatalCondition) (t : State),
    stepWith cfg s = .fault (.fatal c t) →
    t.clkCoarse = s.clkCoarse ∧ t.clkFine = s.clkFine ∧ t.display.mode = s.display.mode ∧
    t.display.scanline = s.display.scanline ∧ t.display.modeClock = s.display.modeClock ∧
    t.display.fb = s.display.fb ∧ t.display.frames = s.display.frames ∧ t.events = s.events ∧
    t.notTaken = s.notTaken

/-- An opcode without a table entry stops the step before any handler effect, with `pc` past the fetched opcode byte or bytes,
under every configuration (spec/60_exceptions.md R301, spec/40_step_and_dispatch.md R119). -/
def Obligations.AbsentEntryStops : Prop :=
  ∀ (cfg : Config) (s : State), s.Running →
    (∀ op, op ≠ 0xCB#8 → (bootUnmapCheck s).peek s.pc = some op → cfg.impl false op = false →
      stepWith cfg s = stoppedAt (.unimplementedInstruction false op s.pc s.pc)
        { bootUnmapCheck s with pc := s.pc + 1 }) ∧
    (∀ key, (bootUnmapCheck s).peek s.pc = some 0xCB#8 → (bootUnmapCheck s).peek (s.pc + 1) = some key →
      cfg.impl true key = false →
      stepWith cfg s = stoppedAt (.unimplementedInstruction true key (s.pc + 1) s.pc)
        { bootUnmapCheck s with pc := s.pc + 2 })

/-- A faulting opcode fetch precedes any lookup, and for an escape the fetch of the second byte precedes its lookup
(spec/60_exceptions.md R304). -/
def Obligations.OpcodeFetchFaultPrecedesLookup : Prop :=
  ∀ (cfg : Config) (s : State), s.Running →
    ((bootUnmapCheck s).peek s.pc = none →
      stepWith cfg s = stoppedAt (.invalidMemoryAccess s.pc .fetch) (bootUnmapCheck s)) ∧
    ((bootUnmapCheck s).peek s.pc = some 0xCB#8 → (bootUnmapCheck s).peek (s.pc + 1) = none →
      stepWith cfg s = stoppedAt (.invalidMemoryAccess (s.pc + 1) .fetch) { bootUnmapCheck s with pc := s.pc + 1 })

/-- Only a conditional transfer whose condition is false sets the conditional-not-taken flag, so only it can be charged the
reduced cost (spec/40_step_and_dispatch.md R101, R116). -/
def Obligations.OnlyUntakenConditionalsSetNotTaken : Prop :=
  ∀ (i : Instr) (s t : State), s.notTaken = false → exec i s = .next t →
    (t.notTaken = true ↔ ∃ cc, i.IsConditional cc ∧ s.holds cc = false)

/-- `halted` is set by HALT and STOP and written by no other instruction; `ime` is written by DI, EI and RETI and by no other
(spec/10_state.md R27, R28). -/
def Obligations.WritersOfHaltedAndIme : Prop :=
  ∀ (i : Instr) (s t : State), exec i s = .next t →
    ((i = .halt ∨ ∃ v, i = .stop v) → t.halted = true) ∧
    (¬(i = .halt ∨ ∃ v, i = .stop v) → t.halted = s.halted) ∧
    (i = .di → t.ime = false) ∧
    ((i = .ei ∨ i = .reti) → t.ime = true) ∧
    (¬(i = .di ∨ i = .ei ∨ i = .reti) → t.ime = s.ime)

/-- Flags are written by the instructions whose rules name one and by no other; no transfer of control writes a flag, and a step
charges its cost without touching one (spec/40_step_and_dispatch.md R117). -/
def Obligations.FlagsWrittenOnlyByTheirInstructions : Prop :=
  (∀ (i : Instr) (s t : State), ¬ i.WritesFlags → exec i s = .next t → t.flags = s.flags) ∧
  (∀ (cost : Byte) (s : State), (s.charged cost).flags = s.flags)

/-- Every byte of memory reads as before, but for the bytes an instruction stores to; an instruction that stores nothing leaves
all of memory and the display registers as they were (spec/10_state.md R31, R32; spec/20_memory.md R51). Two addresses are one
byte where they route to one destination. -/
def Obligations.MemoryFrame : Prop :=
  ∀ (i : Instr) (s t : State), exec i s = .next t →
    (∀ addr, (∀ st, i.StoresTo s st → route s.bootActive addr ≠ route s.bootActive st) → t.peek addr = s.peek addr) ∧
    ((∀ st, ¬ i.StoresTo s st) → t.mem = s.mem ∧ t.display = s.display)

/-! ## Memory -/

/-- The addresses that route nowhere are 0xFEA0-0xFEFF and the register window but for its five registers; there a read and a
write are not answered, and everywhere else they are (spec/20_memory.md R58). -/
def Obligations.UnmappedAddressesExactly : Prop :=
  ∀ (s : State) (addr : Word) (v : Byte),
    (s.peek addr = none ↔
      (0xFEA0 ≤ addr.toNat ∧ addr.toNat ≤ 0xFEFF) ∨
      (0xFF00 ≤ addr.toNat ∧ addr.toNat ≤ 0xFF7F ∧ addr ≠ 0xFF40#16 ∧ addr ≠ 0xFF42#16 ∧ addr ≠ 0xFF43#16 ∧
        addr ≠ 0xFF44#16 ∧ addr ≠ 0xFF47#16)) ∧
    (s.poke addr v = none ↔ s.peek addr = none) ∧
    (s.peek addr = none →
      (∀ kind f, readByte kind addr s f = stoppedAt (.invalidMemoryAccess addr kind) s) ∧
      (∀ f, writeByte addr v s f = stoppedAt (.invalidMemoryAccess addr .write) s))

/-- An address of 0xE000-0xFDFF names the byte 0x2000 below it (spec/20_memory.md R53). -/
def Obligations.EchoMirrorsWorkRam : Prop :=
  ∀ (s : State) (addr : Word) (v : Byte), 0xE000 ≤ addr.toNat → addr.toNat ≤ 0xFDFF →
    s.peek addr = s.peek (addr - 0x2000#16) ∧ s.poke addr v = s.poke (addr - 0x2000#16) v

/-- A read after a write to the same address gives the value written, ROM included, but for LY, where a write changes
nothing; a write leaves every byte with another destination alone, and changes no byte's destination (spec/20_memory.md R54,
R56, R57, R67). -/
def Obligations.ReadAfterWrite : Prop :=
  ∀ (s t : State) (addr : Word) (v : Byte), s.mem.wf = true → s.poke addr v = some t →
    (addr ≠ 0xFF44#16 → t.peek addr = some v) ∧
    (addr = 0xFF44#16 → t = s) ∧
    (∀ other, route s.bootActive other ≠ route s.bootActive addr → t.peek other = s.peek other) ∧
    t.bootActive = s.bootActive

/-- In canonical memory every word written at an address is the word read back exactly where both byte addresses are mapped and
neither is LY; the word may begin at any address, 0xFFFF included (spec/20_memory.md R60, R63). That memory is canonical is the
model's own premise: it is one form of each content, and every step keeps it (`InvariantKeptByStep`). -/
def Obligations.WordRoundTrip : Prop :=
  ∀ (s : State) (addr : Word), s.mem.wf = true →
    ((∀ v : Word, ∃ t, writeWord addr v s .next = .next t ∧ t.peek addr = some (lowByte v) ∧
        t.peek (addr + 1) = some (highByte v) ∧ ∀ f, readWord addr t f = f v) ↔
      s.peek addr ≠ none ∧ s.peek (addr + 1) ≠ none ∧ addr ≠ 0xFF44#16 ∧ addr + 1 ≠ 0xFF44#16)

/-- While the boot overlay is mapped, accesses of 0x0000-0x00FF reach the boot image and leave the ROM bytes there as they
were; 0x0100-0x7FFF reaches ROM either way (spec/20_memory.md R52). -/
def Obligations.BootOverlayHidesRom : Prop :=
  ∀ (s t : State) (addr : Word) (v : Byte), s.mem.wf = true → s.bootActive = true → s.poke addr v = some t →
    (addr.toNat ≤ 0x00FF → t.peek addr = some v ∧
      ∀ other, { t with bootActive := false }.peek other = { s with bootActive := false }.peek other) ∧
    (0x0100 ≤ addr.toNat → s.peek addr = { s with bootActive := false }.peek addr ∧
      { s with bootActive := false }.poke addr v = some { t with bootActive := false })

/-- The five display registers as a program reads and writes them; no other address of the window is recognised
(spec/20_memory.md R56). -/
def Obligations.DisplayRegisterWindow : Prop :=
  ∀ (s : State) (v : Byte),
    s.peek 0xFF40#16 = some s.display.lcdc ∧
    s.poke 0xFF40#16 v = some { s with display := { s.display with lcdc := v } } ∧
    s.peek 0xFF42#16 = some s.display.scy ∧
    s.poke 0xFF42#16 v = some { s with display := { s.display with scy := v } } ∧
    s.peek 0xFF43#16 = some s.display.scx ∧
    s.poke 0xFF43#16 v = some { s with display := { s.display with scx := v } } ∧
    s.peek 0xFF44#16 = some (BitVec.ofNat 8 s.display.scanline) ∧
    s.poke 0xFF44#16 v = some s ∧
    s.peek 0xFF47#16 = some s.display.bgp ∧
    s.poke 0xFF47#16 v = some { s with display := { s.display with bgp := v } } ∧
    ∀ addr : Word, 0xFF00 ≤ addr.toNat → addr.toNat ≤ 0xFF7F →
      addr ∉ [0xFF40#16, 0xFF42#16, 0xFF43#16, 0xFF44#16, 0xFF47#16] → s.peek addr = none ∧ s.poke addr v = none

/-! ## Operands -/

/-- The operand fields `r8` and `cond`: which register, byte or test each index names (spec/30_encoding.md R83, R86). -/
def Obligations.OperandFields : Prop :=
  ∀ (s : State) (v : Byte),
    s.r8 (.ofField 0) = some s.b ∧ s.setR8 (.ofField 0) v = some { s with b := v } ∧
    s.r8 (.ofField 1) = some s.c ∧ s.setR8 (.ofField 1) v = some { s with c := v } ∧
    s.r8 (.ofField 2) = some s.d ∧ s.setR8 (.ofField 2) v = some { s with d := v } ∧
    s.r8 (.ofField 3) = some s.e ∧ s.setR8 (.ofField 3) v = some { s with e := v } ∧
    s.r8 (.ofField 4) = some s.h ∧ s.setR8 (.ofField 4) v = some { s with h := v } ∧
    s.r8 (.ofField 5) = some s.l ∧ s.setR8 (.ofField 5) v = some { s with l := v } ∧
    s.r8 (.ofField 6) = s.peek s.hl ∧ s.setR8 (.ofField 6) v = s.poke s.hl v ∧
    s.r8 (.ofField 7) = some s.a ∧ s.setR8 (.ofField 7) v = some { s with a := v } ∧
    s.holds (.ofField 0) = !s.flags.z ∧ s.holds (.ofField 1) = s.flags.z ∧
    s.holds (.ofField 2) = !s.flags.c ∧ s.holds (.ofField 3) = s.flags.c

/-- The pairs as words, high byte first, read and written; SP; and AF, whose low byte is the packed flags with bits 3:0 zero
and unpacks from bits 7:4 (spec/30_encoding.md R84, R85; spec/40_step_and_dispatch.md R105, R106; spec/10_state.md R23). -/
def Obligations.PairAndFlagByteAccess : Prop :=
  ∀ (s : State) (v : Word),
    (s.rp (.ofField 0)).toNat = 256 * s.b.toNat + s.c.toNat ∧
    (s.rp (.ofField 1)).toNat = 256 * s.d.toNat + s.e.toNat ∧
    (s.rp (.ofField 2)).toNat = 256 * s.h.toNat + s.l.toNat ∧ s.rp (.ofField 2) = s.hl ∧
    s.rp (.ofField 3) = s.sp ∧
    s.setRp (.ofField 0) v = { s with b := BitVec.ofNat 8 (v.toNat / 256), c := BitVec.ofNat 8 v.toNat } ∧
    s.setRp (.ofField 1) v = { s with d := BitVec.ofNat 8 (v.toNat / 256), e := BitVec.ofNat 8 v.toNat } ∧
    s.setRp (.ofField 2) v = { s with h := BitVec.ofNat 8 (v.toNat / 256), l := BitVec.ofNat 8 v.toNat } ∧
    s.setRp (.ofField 3) v = { s with sp := v } ∧
    s.rp2 (.ofField 0) = s.rp .bc ∧ s.rp2 (.ofField 1) = s.rp .de ∧ s.rp2 (.ofField 2) = s.rp .hl ∧
    (s.rp2 (.ofField 3)).toNat = 256 * s.a.toNat + 128 * num s.flags.z + 64 * num s.flags.n + 32 * num s.flags.h +
      16 * num s.flags.c ∧
    s.setRp2 (.ofField 0) v = s.setRp .bc v ∧ s.setRp2 (.ofField 1) v = s.setRp .de v ∧
    s.setRp2 (.ofField 2) v = s.setRp .hl v ∧
    s.setRp2 (.ofField 3) v = { s with
      a := BitVec.ofNat 8 (v.toNat / 256)
      flags := ⟨v.getLsbD 7, v.getLsbD 6, v.getLsbD 5, v.getLsbD 4⟩ }

/-! ## Loads and stores -/

/-- LD between two `r8` operands, at most one of them `(HL)`: the destination takes the source's value and nothing else changes;
an access of an unmapped byte stops the instruction with nothing written (spec/41_loads.md R130, R132, R133). -/
def Obligations.LoadBetweenOperands : Prop :=
  ∀ y z : BitVec 3, ¬(y = 6#3 ∧ z = 6#3) →
    HasEncoding (.ld (.ofField y) (.ofField z)) [opcode 1#2 y z] ∧
    HasCost false (opcode 1#2 y z) (if y = 6#3 ∨ z = 6#3 then 8 else 4) (if y = 6#3 ∨ z = 6#3 then 8 else 4) ∧
    (∀ (s t : State) (v : Byte), s.r8 (.ofField z) = some v → s.setR8 (.ofField y) v = some t →
      exec (.ld (.ofField y) (.ofField z)) s = .next t) ∧
    (∀ s : State, s.r8 (.ofField z) = none →
      exec (.ld (.ofField y) (.ofField z)) s = stoppedAt (.invalidMemoryAccess s.hl .read) s) ∧
    (∀ (s : State) (v : Byte), s.r8 (.ofField z) = some v → s.setR8 (.ofField y) v = none →
      exec (.ld (.ofField y) (.ofField z)) s = stoppedAt (.invalidMemoryAccess s.hl .write) s)

/-- LD of an immediate byte to an `r8` operand (spec/41_loads.md R131, R134). -/
def Obligations.LoadImmediateByte : Prop :=
  ∀ (y : BitVec 3) (v : Byte),
    HasEncoding (.ldImm (.ofField y) v) [opcode 0#2 y 6#3, v] ∧
    HasCost false (opcode 0#2 y 6#3) (if y = 6#3 then 12 else 8) (if y = 6#3 then 12 else 8) ∧
    ImmediateFetchStops (opcode 0#2 y 6#3) 1 ∧
    (∀ s t : State, s.setR8 (.ofField y) v = some t → exec (.ldImm (.ofField y) v) s = .next t) ∧
    (∀ s : State, s.setR8 (.ofField y) v = none →
      exec (.ldImm (.ofField y) v) s = stoppedAt (.invalidMemoryAccess s.hl .write) s)

/-- LD between A and the byte at BC or DE (spec/41_loads.md R135, R136). -/
def Obligations.AccumulatorThroughPair : Prop :=
  (HasEncoding .ldAAtBc [0x0A#8] ∧ HasCost false 0x0A#8 8 8 ∧
    HasEncoding .ldAAtDe [0x1A#8] ∧ HasCost false 0x1A#8 8 8 ∧
    HasEncoding .ldAtBcA [0x02#8] ∧ HasCost false 0x02#8 8 8 ∧
    HasEncoding .ldAtDeA [0x12#8] ∧ HasCost false 0x12#8 8 8) ∧
  (∀ (s : State) (v : Byte), s.peek s.bc = some v → exec .ldAAtBc s = .next { s with a := v }) ∧
  (∀ (s : State) (v : Byte), s.peek s.de = some v → exec .ldAAtDe s = .next { s with a := v }) ∧
  (∀ s t : State, s.poke s.bc s.a = some t → exec .ldAtBcA s = .next t) ∧
  (∀ s t : State, s.poke s.de s.a = some t → exec .ldAtDeA s = .next t) ∧
  (∀ s : State, s.peek s.bc = none →
    exec .ldAAtBc s = stoppedAt (.invalidMemoryAccess s.bc .read) s ∧
    exec .ldAtBcA s = stoppedAt (.invalidMemoryAccess s.bc .write) s) ∧
  (∀ s : State, s.peek s.de = none →
    exec .ldAAtDe s = stoppedAt (.invalidMemoryAccess s.de .read) s ∧
    exec .ldAtDeA s = stoppedAt (.invalidMemoryAccess s.de .write) s)

/-- LD between A and the byte at HL, with HL incremented or decremented after the access; a faulting access leaves HL alone
(spec/41_loads.md R137 to R140). -/
def Obligations.AccumulatorThroughHlIncDec : Prop :=
  (HasEncoding .ldAAtHlInc [0x2A#8] ∧ HasCost false 0x2A#8 8 8 ∧
    HasEncoding .ldAAtHlDec [0x3A#8] ∧ HasCost false 0x3A#8 8 8 ∧
    HasEncoding .ldAtHlIncA [0x22#8] ∧ HasCost false 0x22#8 8 8 ∧
    HasEncoding .ldAtHlDecA [0x32#8] ∧ HasCost false 0x32#8 8 8) ∧
  (∀ (s : State) (v : Byte), s.peek s.hl = some v →
    exec .ldAAtHlInc s = .next { s with a := v, h := highByte (s.hl + 1), l := lowByte (s.hl + 1) } ∧
    exec .ldAAtHlDec s = .next { s with a := v, h := highByte (s.hl - 1), l := lowByte (s.hl - 1) }) ∧
  (∀ s t : State, s.poke s.hl s.a = some t →
    exec .ldAtHlIncA s = .next { t with h := highByte (s.hl + 1), l := lowByte (s.hl + 1) } ∧
    exec .ldAtHlDecA s = .next { t with h := highByte (s.hl - 1), l := lowByte (s.hl - 1) }) ∧
  (∀ s : State, s.peek s.hl = none →
    exec .ldAAtHlInc s = stoppedAt (.invalidMemoryAccess s.hl .read) s ∧
    exec .ldAAtHlDec s = stoppedAt (.invalidMemoryAccess s.hl .read) s ∧
    exec .ldAtHlIncA s = stoppedAt (.invalidMemoryAccess s.hl .write) s ∧
    exec .ldAtHlDecA s = stoppedAt (.invalidMemoryAccess s.hl .write) s)

/-- LD between A and an absolute address, a high-page address of an immediate, or one of C (spec/41_loads.md R141 to R146). -/
def Obligations.AccumulatorAbsoluteAndHighPage : Prop :=
  (∀ addr : Word,
    HasEncoding (.ldAAtA16 addr) [0xFA#8, lowByte addr, highByte addr] ∧ HasCost false 0xFA#8 16 16 ∧
    ImmediateFetchStops 0xFA#8 2 ∧
    HasEncoding (.ldAtA16A addr) [0xEA#8, lowByte addr, highByte addr] ∧ HasCost false 0xEA#8 16 16 ∧
    ImmediateFetchStops 0xEA#8 2 ∧
    (∀ (s : State) (v : Byte), s.peek addr = some v → exec (.ldAAtA16 addr) s = .next { s with a := v }) ∧
    (∀ s t : State, s.poke addr s.a = some t → exec (.ldAtA16A addr) s = .next t) ∧
    (∀ s : State, s.peek addr = none →
      exec (.ldAAtA16 addr) s = stoppedAt (.invalidMemoryAccess addr .read) s ∧
      exec (.ldAtA16A addr) s = stoppedAt (.invalidMemoryAccess addr .write) s)) ∧
  (∀ n : Byte,
    HasEncoding (.ldhAAtA8 n) [0xF0#8, n] ∧ HasCost false 0xF0#8 12 12 ∧ ImmediateFetchStops 0xF0#8 1 ∧
    HasEncoding (.ldhAtA8A n) [0xE0#8, n] ∧ HasCost false 0xE0#8 12 12 ∧ ImmediateFetchStops 0xE0#8 1 ∧
    (∀ (s : State) (v : Byte), s.peek (0xFF00#16 + n.setWidth 16) = some v →
      exec (.ldhAAtA8 n) s = .next { s with a := v }) ∧
    (∀ s t : State, s.poke (0xFF00#16 + n.setWidth 16) s.a = some t → exec (.ldhAtA8A n) s = .next t) ∧
    (∀ s : State, s.peek (0xFF00#16 + n.setWidth 16) = none →
      exec (.ldhAAtA8 n) s = stoppedAt (.invalidMemoryAccess (0xFF00#16 + n.setWidth 16) .read) s ∧
      exec (.ldhAtA8A n) s = stoppedAt (.invalidMemoryAccess (0xFF00#16 + n.setWidth 16) .write) s)) ∧
  (HasEncoding .ldAAtC [0xF2#8] ∧ HasCost false 0xF2#8 8 8 ∧
    HasEncoding .ldAtCA [0xE2#8] ∧ HasCost false 0xE2#8 8 8) ∧
  (∀ (s : State) (v : Byte), s.peek (0xFF00#16 + s.c.setWidth 16) = some v →
    exec .ldAAtC s = .next { s with a := v }) ∧
  (∀ s t : State, s.poke (0xFF00#16 + s.c.setWidth 16) s.a = some t → exec .ldAtCA s = .next t) ∧
  (∀ s : State, s.peek (0xFF00#16 + s.c.setWidth 16) = none →
    exec .ldAAtC s = stoppedAt (.invalidMemoryAccess (0xFF00#16 + s.c.setWidth 16) .read) s ∧
    exec .ldAtCA s = stoppedAt (.invalidMemoryAccess (0xFF00#16 + s.c.setWidth 16) .write) s)

/-- LD rr,d16, LD SP,HL and LD (a16),SP; the last stores the low byte first, and it stays stored if the high one faults
(spec/41_loads.md R147, R148, R149). -/
def Obligations.SixteenBitLoads : Prop :=
  (∀ (p : BitVec 2) (v : Word),
    HasEncoding (.ldPair (.ofField p) v) [opcodePq 0#2 p 0#1 1#3, lowByte v, highByte v] ∧
    HasCost false (opcodePq 0#2 p 0#1 1#3) 12 12 ∧ ImmediateFetchStops (opcodePq 0#2 p 0#1 1#3) 2 ∧
    ∀ s : State, exec (.ldPair (.ofField p) v) s = .next (s.setRp (.ofField p) v)) ∧
  (HasEncoding .ldSpHl [0xF9#8] ∧ HasCost false 0xF9#8 8 8 ∧
    ∀ s : State, exec .ldSpHl s = .next { s with sp := s.hl }) ∧
  (∀ addr : Word,
    HasEncoding (.ldAtA16Sp addr) [0x08#8, lowByte addr, highByte addr] ∧ HasCost false 0x08#8 20 20 ∧
    ImmediateFetchStops 0x08#8 2 ∧
    (∀ s t u : State, s.poke addr (lowByte s.sp) = some t → t.poke (addr + 1) (highByte s.sp) = some u →
      exec (.ldAtA16Sp addr) s = .next u) ∧
    (∀ s : State, s.poke addr (lowByte s.sp) = none →
      exec (.ldAtA16Sp addr) s = stoppedAt (.invalidMemoryAccess addr .write) s) ∧
    (∀ s t : State, s.poke addr (lowByte s.sp) = some t → t.poke (addr + 1) (highByte s.sp) = none →
      exec (.ldAtA16Sp addr) s = stoppedAt (.invalidMemoryAccess (addr + 1) .write) t))

/-- PUSH of a pair: the high byte at SP - 1, then the low byte at SP - 2, SP moving before each write; AF is A above the packed
flags (spec/41_loads.md R150, R151; spec/40_step_and_dispatch.md R108). -/
def Obligations.PushPair : Prop :=
  (∀ s : State, (s.rp2 (.ofField 3)).toNat =
    256 * s.a.toNat + 128 * num s.flags.z + 64 * num s.flags.n + 32 * num s.flags.h + 16 * num s.flags.c) ∧
  ∀ p : BitVec 2,
    HasEncoding (.push (.ofField p)) [opcodePq 3#2 p 0#1 5#3] ∧ HasCost false (opcodePq 3#2 p 0#1 5#3) 16 16 ∧
    (∀ s t u : State,
      { s with sp := s.sp - 1 }.poke (s.sp - 1) (highByte (s.rp2 (.ofField p))) = some t →
      { t with sp := s.sp - 2 }.poke (s.sp - 2) (lowByte (s.rp2 (.ofField p))) = some u →
      exec (.push (.ofField p)) s = .next u ∧ u.sp = s.sp - 2) ∧
    (∀ s : State, { s with sp := s.sp - 1 }.poke (s.sp - 1) (highByte (s.rp2 (.ofField p))) = none →
      exec (.push (.ofField p)) s = stoppedAt (.invalidMemoryAccess (s.sp - 1) .write) { s with sp := s.sp - 1 }) ∧
    (∀ s t : State,
      { s with sp := s.sp - 1 }.poke (s.sp - 1) (highByte (s.rp2 (.ofField p))) = some t →
      { t with sp := s.sp - 2 }.poke (s.sp - 2) (lowByte (s.rp2 (.ofField p))) = none →
      exec (.push (.ofField p)) s = stoppedAt (.invalidMemoryAccess (s.sp - 2) .write) { t with sp := s.sp - 2 })

/-- POP of a pair: the low byte from SP, then the high byte from SP + 1; a faulting read leaves the pair unwritten. AF takes A
from the high byte and the flags from bits 7 to 4 of the low one (spec/41_loads.md R152, R153; spec/40_step_and_dispatch.md
R109). -/
def Obligations.PopPair : Prop :=
  (∀ (s : State) (v : Word), s.setRp2 (.ofField 3) v = { s with
    a := BitVec.ofNat 8 (v.toNat / 256)
    flags := ⟨v.getLsbD 7, v.getLsbD 6, v.getLsbD 5, v.getLsbD 4⟩ }) ∧
  (∀ s : State, s.setRp2 (.ofField 3) (s.rp2 (.ofField 3)) = s) ∧
  ∀ p : BitVec 2,
    HasEncoding (.pop (.ofField p)) [opcodePq 3#2 p 0#1 1#3] ∧ HasCost false (opcodePq 3#2 p 0#1 1#3) 12 12 ∧
    (∀ (s : State) (lo hi : Byte), s.peek s.sp = some lo → s.peek (s.sp + 1) = some hi →
      exec (.pop (.ofField p)) s =
        .next ({ s with sp := s.sp + 2 }.setRp2 (.ofField p) (BitVec.ofNat 16 (256 * hi.toNat + lo.toNat)))) ∧
    (∀ s : State, s.peek s.sp = none →
      exec (.pop (.ofField p)) s = stoppedAt (.invalidMemoryAccess s.sp .read) s) ∧
    (∀ (s : State) (lo : Byte), s.peek s.sp = some lo → s.peek (s.sp + 1) = none →
      exec (.pop (.ofField p)) s = stoppedAt (.invalidMemoryAccess (s.sp + 1) .read) { s with sp := s.sp + 1 })

/-- What is pushed is popped: after PUSH of one pair, POP of a pair restores SP and gives that pair the value, in any stack
whose two bytes are mapped and neither LY; with one pair for both, nothing but memory and the display registers differs from
the state before the PUSH (spec/40_step_and_dispatch.md R109, R108; spec/41_loads.md R153). -/
def Obligations.PushThenPop : Prop :=
  ∀ (s : State) (p q : Rp2), s.mem.wf = true → s.peek (s.sp - 1) ≠ none → s.peek (s.sp - 2) ≠ none →
    s.sp - 1 ≠ 0xFF44#16 → s.sp - 2 ≠ 0xFF44#16 →
    ∃ t, exec (.push p) s = .next t ∧ t.sp = s.sp - 2 ∧
      exec (.pop q) t = .next ({ t with sp := s.sp }.setRp2 q (s.rp2 p)) ∧
      (q = p → { t with sp := s.sp }.setRp2 q (s.rp2 p) = { s with mem := t.mem, display := t.display })

/-! ## 8-bit arithmetic and logic -/

/-- ADD and ADC with an `r8` operand or an immediate: A takes the sum modulo 256 and all four flags are written; ADC counts the
carry it found. A faulting read writes nothing (spec/42_alu8.md R160 to R165). -/
def Obligations.AddAndAddWithCarry : Prop :=
  ∀ withCarry : Bool,
    let op : AluOp := if withCarry then .adc else .add
    let y : BitVec 3 := if withCarry then 1#3 else 0#3
    (∀ z : BitVec 3,
      HasEncoding (.alu op (.ofField z)) [opcode 2#2 y z] ∧
      HasCost false (opcode 2#2 y z) (if z = 6#3 then 8 else 4) (if z = 6#3 then 8 else 4) ∧
      (∀ (s : State) (v : Byte), s.r8 (.ofField z) = some v →
        let cin := if withCarry then num s.flags.c else 0
        exec (.alu op (.ofField z)) s =
          .next { s with a := BitVec.ofNat 8 (s.a.toNat + v.toNat + cin), flags := addFlags s.a v cin }) ∧
      (∀ s : State, s.r8 (.ofField z) = none →
        exec (.alu op (.ofField z)) s = stoppedAt (.invalidMemoryAccess s.hl .read) s)) ∧
    (∀ v : Byte,
      HasEncoding (.aluImm op v) [opcode 3#2 y 6#3, v] ∧ HasCost false (opcode 3#2 y 6#3) 8 8 ∧
      ImmediateFetchStops (opcode 3#2 y 6#3) 1 ∧
      ∀ s : State,
        let cin := if withCarry then num s.flags.c else 0
        exec (.aluImm op v) s =
          .next { s with a := BitVec.ofNat 8 (s.a.toNat + v.toNat + cin), flags := addFlags s.a v cin })

/-- SUB, SBC and CP with an `r8` operand or an immediate: the difference goes to A, but CP only sets the flags; SBC subtracts
the carry it found (spec/42_alu8.md R166 to R171, R181 to R183). -/
def Obligations.SubtractAndCompare : Prop :=
  ∀ op : AluOp, op = .sub ∨ op = .sbc ∨ op = .cp →
    let y : BitVec 3 := if op = .sub then 2#3 else if op = .sbc then 3#3 else 7#3
    let after (s : State) (v : Byte) : State :=
      let bin := if op = .sbc then num s.flags.c else 0
      { s with
        a := if op = .cp then s.a else s.a - v - BitVec.ofNat 8 bin
        flags := subFlags s.a v bin }
    (∀ z : BitVec 3,
      HasEncoding (.alu op (.ofField z)) [opcode 2#2 y z] ∧
      HasCost false (opcode 2#2 y z) (if z = 6#3 then 8 else 4) (if z = 6#3 then 8 else 4) ∧
      (∀ (s : State) (v : Byte), s.r8 (.ofField z) = some v → exec (.alu op (.ofField z)) s = .next (after s v)) ∧
      (∀ s : State, s.r8 (.ofField z) = none →
        exec (.alu op (.ofField z)) s = stoppedAt (.invalidMemoryAccess s.hl .read) s)) ∧
    (∀ v : Byte,
      HasEncoding (.aluImm op v) [opcode 3#2 y 6#3, v] ∧ HasCost false (opcode 3#2 y 6#3) 8 8 ∧
      ImmediateFetchStops (opcode 3#2 y 6#3) 1 ∧ ∀ s : State, exec (.aluImm op v) s = .next (after s v))

/-- AND, XOR and OR with an `r8` operand or an immediate: fZ follows the result, fN and fC are cleared, fH is 1 for AND and 0
otherwise (spec/42_alu8.md R172 to R180). -/
def Obligations.LogicalOperations : Prop :=
  ∀ op : AluOp, op = .and ∨ op = .xor ∨ op = .or →
    let y : BitVec 3 := if op = .and then 4#3 else if op = .xor then 5#3 else 6#3
    let after (s : State) (v : Byte) : State :=
      let r := if op = .and then s.a &&& v else if op = .xor then s.a ^^^ v else s.a ||| v
      { s with a := r, flags := ⟨decide (r = 0#8), false, decide (op = .and), false⟩ }
    (∀ z : BitVec 3,
      HasEncoding (.alu op (.ofField z)) [opcode 2#2 y z] ∧
      HasCost false (opcode 2#2 y z) (if z = 6#3 then 8 else 4) (if z = 6#3 then 8 else 4) ∧
      (∀ (s : State) (v : Byte), s.r8 (.ofField z) = some v → exec (.alu op (.ofField z)) s = .next (after s v)) ∧
      (∀ s : State, s.r8 (.ofField z) = none →
        exec (.alu op (.ofField z)) s = stoppedAt (.invalidMemoryAccess s.hl .read) s)) ∧
    (∀ v : Byte,
      HasEncoding (.aluImm op v) [opcode 3#2 y 6#3, v] ∧ HasCost false (opcode 3#2 y 6#3) 8 8 ∧
      ImmediateFetchStops (opcode 3#2 y 6#3) 1 ∧ ∀ s : State, exec (.aluImm op v) s = .next (after s v))

/-- INC and DEC of an `r8` operand write all four flags, fC included, and the flags before the result. A byte at HL that can be
read can be written, so only the read can fault (spec/42_alu8.md R184 to R187, spec/40_step_and_dispatch.md R114). -/
def Obligations.IncrementAndDecrement : Prop :=
  ∀ (y : BitVec 3),
    HasEncoding (.inc (.ofField y)) [opcode 0#2 y 4#3] ∧ HasEncoding (.dec (.ofField y)) [opcode 0#2 y 5#3] ∧
    HasCost false (opcode 0#2 y 4#3) (if y = 6#3 then 12 else 4) (if y = 6#3 then 12 else 4) ∧
    HasCost false (opcode 0#2 y 5#3) (if y = 6#3 then 12 else 4) (if y = 6#3 then 12 else 4) ∧
    (∀ (s : State) (v : Byte), s.r8 (.ofField y) = some v →
      (∃ t, { s with flags := ⟨decide (v = 0xFF#8), false, decide (v.toNat % 16 = 15), decide (v = 0xFF#8)⟩ }.setR8
          (.ofField y) (v + 1) = some t ∧ exec (.inc (.ofField y)) s = .next t) ∧
      (∃ t, { s with flags := ⟨decide (v = 0x01#8), true, decide (v.toNat % 16 = 0), decide (v = 0x00#8)⟩ }.setR8
          (.ofField y) (v - 1) = some t ∧ exec (.dec (.ofField y)) s = .next t)) ∧
    (∀ s : State, s.r8 (.ofField y) = none →
      exec (.inc (.ofField y)) s = stoppedAt (.invalidMemoryAccess s.hl .read) s ∧
      exec (.dec (.ofField y)) s = stoppedAt (.invalidMemoryAccess s.hl .read) s)

/-- CPL, SCF, CCF and the four rotates of A, which clear fZ (spec/42_alu8.md R189 to R195). -/
def Obligations.AccumulatorAndCarryOperations : Prop :=
  (HasEncoding .cpl [0x2F#8] ∧ HasCost false 0x2F#8 4 4 ∧ HasEncoding .scf [0x37#8] ∧ HasCost false 0x37#8 4 4 ∧
    HasEncoding .ccf [0x3F#8] ∧ HasCost false 0x3F#8 4 4 ∧ HasEncoding .rlca [0x07#8] ∧ HasCost false 0x07#8 4 4 ∧
    HasEncoding .rrca [0x0F#8] ∧ HasCost false 0x0F#8 4 4 ∧ HasEncoding .rla [0x17#8] ∧ HasCost false 0x17#8 4 4 ∧
    HasEncoding .rra [0x1F#8] ∧ HasCost false 0x1F#8 4 4) ∧
  ∀ s : State,
    exec .cpl s = .next { s with a := ~~~s.a, flags := { s.flags with n := true, h := true } } ∧
    exec .scf s = .next { s with flags := { s.flags with n := false, h := false, c := true } } ∧
    exec .ccf s = .next { s with flags := { s.flags with n := false, h := false, c := !s.flags.c } } ∧
    exec .rlca s = .next { s with a := s.a.rotateLeft 1, flags := ⟨false, false, false, s.a.getLsbD 7⟩ } ∧
    exec .rrca s = .next { s with a := s.a.rotateRight 1, flags := ⟨false, false, false, s.a.getLsbD 0⟩ } ∧
    exec .rla s = .next { s with
      a := BitVec.ofNat 8 (2 * s.a.toNat + num s.flags.c), flags := ⟨false, false, false, s.a.getLsbD 7⟩ } ∧
    exec .rra s = .next { s with
      a := BitVec.ofNat 8 (s.a.toNat / 2 + 128 * num s.flags.c), flags := ⟨false, false, false, s.a.getLsbD 0⟩ }

/-- DAA: the correction is added after an addition and subtracted after a subtraction (spec/42_alu8.md R188). -/
def Obligations.DecimalAdjust : Prop :=
  HasEncoding .daa [0x27#8] ∧ HasCost false 0x27#8 4 4 ∧
  ∀ s : State,
    let upper := s.flags.c || (!s.flags.n && decide (s.a.toNat > 0x99))
    let lower := s.flags.h || (!s.flags.n && decide (s.a.toNat % 16 > 9))
    let correction := BitVec.ofNat 8 (0x60 * num upper + 0x06 * num lower)
    let r := if s.flags.n then s.a - correction else s.a + correction
    exec .daa s = .next { s with a := r, flags := ⟨decide (r = 0#8), s.flags.n, false, upper⟩ }

/-- After an addition of two numbers below 100 in binary-coded decimal, DAA gives their sum's last two digits, with fC the
decimal carry (spec/42_alu8.md R188, corner cases). -/
def Obligations.DecimalAdjustGivesDecimalSum : Prop :=
  ∀ (s : State) (m n : Nat), m < 100 → n < 100 → s.a = bcd m →
    ∃ t u, exec (.aluImm .add (bcd n)) s = .next t ∧ exec .daa t = .next u ∧ u.a = bcd ((m + n) % 100) ∧
      u.flags.c = decide (100 ≤ m + n) ∧ u.flags.z = decide ((m + n) % 100 = 0)

/-! ## 16-bit arithmetic -/

/-- ADD HL,rr keeps fZ and takes its carries out of bits 11 and 15; INC rr and DEC rr wrap and write no flag
(spec/43_alu16.md R200, R201, R202). -/
def Obligations.PairArithmetic : Prop :=
  ∀ p : BitVec 2,
    HasEncoding (.addHl (.ofField p)) [opcodePq 0#2 p 1#1 1#3] ∧ HasCost false (opcodePq 0#2 p 1#1 1#3) 8 8 ∧
    HasEncoding (.incPair (.ofField p)) [opcodePq 0#2 p 0#1 3#3] ∧ HasCost false (opcodePq 0#2 p 0#1 3#3) 8 8 ∧
    HasEncoding (.decPair (.ofField p)) [opcodePq 0#2 p 1#1 3#3] ∧ HasCost false (opcodePq 0#2 p 1#1 3#3) 8 8 ∧
    ∀ s : State,
      exec (.addHl (.ofField p)) s = .next { s with
        h := highByte (s.hl + s.rp (.ofField p))
        l := lowByte (s.hl + s.rp (.ofField p))
        flags := {
          z := s.flags.z
          n := false
          h := decide (s.hl.toNat % 4096 + (s.rp (.ofField p)).toNat % 4096 ≥ 4096)
          c := decide (s.hl.toNat + (s.rp (.ofField p)).toNat ≥ 65536) } } ∧
      exec (.incPair (.ofField p)) s = .next (s.setRp (.ofField p) (s.rp (.ofField p) + 1)) ∧
      exec (.decPair (.ofField p)) s = .next (s.setRp (.ofField p) (s.rp (.ofField p) - 1))

/-- ADD SP,e8 and LD HL,SP+e8: the offset is signed; fH and fC come from the unsigned addition of its byte to the low byte of
SP (spec/43_alu16.md R203, R204). -/
def Obligations.StackPointerOffset : Prop :=
  ∀ e : Byte,
    HasEncoding (.addSpE8 e) [0xE8#8, e] ∧ HasCost false 0xE8#8 16 16 ∧ ImmediateFetchStops 0xE8#8 1 ∧
    HasEncoding (.ldHlSpE8 e) [0xF8#8, e] ∧ HasCost false 0xF8#8 12 12 ∧ ImmediateFetchStops 0xF8#8 1 ∧
    ∀ s : State,
      let sum := s.sp + e.signExtend 16
      let flags : Flags :=
        ⟨false, false, decide (s.sp.toNat % 16 + e.toNat % 16 ≥ 16), decide (s.sp.toNat % 256 + e.toNat ≥ 256)⟩
      exec (.addSpE8 e) s = .next { s with sp := sum, flags := flags } ∧
      exec (.ldHlSpE8 e) s = .next { s with h := highByte sum, l := lowByte sum, flags := flags }

/-! ## Control transfer -/

/-- JP, JP HL and JR, unconditional and conditional: a relative offset is signed and counts from the address after the
instruction; an untaken transfer only sets the conditional-not-taken flag (spec/44_control.md R210 to R214). -/
def Obligations.Jumps : Prop :=
  (∀ target : Word,
    HasEncoding (.jpA16 target) [0xC3#8, lowByte target, highByte target] ∧ HasCost false 0xC3#8 16 16 ∧
    ImmediateFetchStops 0xC3#8 2 ∧ ∀ s : State, exec (.jpA16 target) s = .next { s with pc := target }) ∧
  (HasEncoding .jpHl [0xE9#8] ∧ HasCost false 0xE9#8 4 4 ∧ ∀ s : State, exec .jpHl s = .next { s with pc := s.hl }) ∧
  (∀ e : Byte,
    HasEncoding (.jrE8 e) [0x18#8, e] ∧ HasCost false 0x18#8 12 12 ∧ ImmediateFetchStops 0x18#8 1 ∧
    ∀ s : State, exec (.jrE8 e) s = .next { s with pc := s.pc + e.signExtend 16 }) ∧
  (∀ (y : BitVec 2) (target : Word),
    HasEncoding (.jp (.ofField y) target) [opcode 3#2 (y.setWidth 3) 2#3, lowByte target, highByte target] ∧
    HasCost false (opcode 3#2 (y.setWidth 3) 2#3) 16 12 ∧ ImmediateFetchStops (opcode 3#2 (y.setWidth 3) 2#3) 2 ∧
    ∀ s : State,
      (s.holds (.ofField y) = true → exec (.jp (.ofField y) target) s = .next { s with pc := target }) ∧
      (s.holds (.ofField y) = false → exec (.jp (.ofField y) target) s = .next { s with notTaken := true })) ∧
  (∀ (y : BitVec 2) (e : Byte),
    HasEncoding (.jr (.ofField y) e) [opcode 0#2 (y.setWidth 3 + 4) 0#3, e] ∧
    HasCost false (opcode 0#2 (y.setWidth 3 + 4) 0#3) 12 8 ∧
    ImmediateFetchStops (opcode 0#2 (y.setWidth 3 + 4) 0#3) 1 ∧
    ∀ s : State,
      (s.holds (.ofField y) = true → exec (.jr (.ofField y) e) s = .next { s with pc := s.pc + e.signExtend 16 }) ∧
      (s.holds (.ofField y) = false → exec (.jr (.ofField y) e) s = .next { s with notTaken := true }))

/-- CALL, CALL cc and RST: the address after the instruction is pushed, high byte first, and control goes to the target; an
untaken call only sets the conditional-not-taken flag, and a faulting push leaves `pc` where it was (spec/44_control.md R215,
R216, R219). -/
def Obligations.Calls : Prop :=
  (∀ target : Word,
    HasEncoding (.callA16 target) [0xCD#8, lowByte target, highByte target] ∧ HasCost false 0xCD#8 24 24 ∧
    ImmediateFetchStops 0xCD#8 2) ∧
  (∀ (y : BitVec 2) (target : Word),
    HasEncoding (.call (.ofField y) target) [opcode 3#2 (y.setWidth 3) 4#3, lowByte target, highByte target] ∧
    HasCost false (opcode 3#2 (y.setWidth 3) 4#3) 24 12 ∧ ImmediateFetchStops (opcode 3#2 (y.setWidth 3) 4#3) 2 ∧
    ∀ s : State, s.holds (.ofField y) = false → exec (.call (.ofField y) target) s = .next { s with notTaken := true }) ∧
  (∀ y : BitVec 3, HasEncoding (.rst y) [opcode 3#2 y 7#3] ∧ HasCost false (opcode 3#2 y 7#3) 16 16) ∧
  (∀ (i : Instr) (target : Word) (s t u : State), i.Calls target s →
    { s with sp := s.sp - 1 }.poke (s.sp - 1) (highByte s.pc) = some t →
    { t with sp := s.sp - 2 }.poke (s.sp - 2) (lowByte s.pc) = some u →
    exec i s = .next { u with pc := target } ∧ u.sp = s.sp - 2) ∧
  (∀ (i : Instr) (target : Word) (s : State), i.Calls target s →
    { s with sp := s.sp - 1 }.poke (s.sp - 1) (highByte s.pc) = none →
    exec i s = stoppedAt (.invalidMemoryAccess (s.sp - 1) .write) { s with sp := s.sp - 1 }) ∧
  (∀ (i : Instr) (target : Word) (s t : State), i.Calls target s →
    { s with sp := s.sp - 1 }.poke (s.sp - 1) (highByte s.pc) = some t →
    { t with sp := s.sp - 2 }.poke (s.sp - 2) (lowByte s.pc) = none →
    exec i s = stoppedAt (.invalidMemoryAccess (s.sp - 2) .write) { t with sp := s.sp - 2 })

/-- RET, RET cc and RETI pop `pc`; RETI also sets `ime`. An untaken return only sets the conditional-not-taken flag, and a faulting
read leaves `pc` and `ime` unwritten (spec/44_control.md R217, R218, R220). -/
def Obligations.Returns : Prop :=
  (HasEncoding .ret [0xC9#8] ∧ HasCost false 0xC9#8 16 16 ∧ HasEncoding .reti [0xD9#8] ∧ HasCost false 0xD9#8 16 16) ∧
  (∀ y : BitVec 2,
    HasEncoding (.retIf (.ofField y)) [opcode 3#2 (y.setWidth 3) 0#3] ∧
    HasCost false (opcode 3#2 (y.setWidth 3) 0#3) 20 8 ∧
    ∀ s : State, s.holds (.ofField y) = false → exec (.retIf (.ofField y)) s = .next { s with notTaken := true }) ∧
  (∀ (i : Instr) (s : State) (lo hi : Byte), s.peek s.sp = some lo → s.peek (s.sp + 1) = some hi →
    (i.Returns s →
      exec i s = .next { s with pc := BitVec.ofNat 16 (256 * hi.toNat + lo.toNat), sp := s.sp + 2 }) ∧
    exec .reti s =
      .next { s with pc := BitVec.ofNat 16 (256 * hi.toNat + lo.toNat), sp := s.sp + 2, ime := true }) ∧
  (∀ (i : Instr) (s : State), i.Returns s ∨ i = .reti → s.peek s.sp = none →
    exec i s = stoppedAt (.invalidMemoryAccess s.sp .read) s) ∧
  (∀ (i : Instr) (s : State) (lo : Byte), i.Returns s ∨ i = .reti → s.peek s.sp = some lo →
    s.peek (s.sp + 1) = none →
    exec i s = stoppedAt (.invalidMemoryAccess (s.sp + 1) .read) { s with sp := s.sp + 1 })

/-- A return undoes a call: from a stack whose two bytes are mapped and neither LY, CALL then RET comes back to the address after
the call with SP restored and no register or flag changed (spec/44_control.md R221). -/
def Obligations.CallThenReturn : Prop :=
  ∀ (s : State) (target : Word), s.mem.wf = true → s.peek (s.sp - 1) ≠ none → s.peek (s.sp - 2) ≠ none →
    s.sp - 1 ≠ 0xFF44#16 → s.sp - 2 ≠ 0xFF44#16 →
    ∃ t, exec (.callA16 target) s = .next t ∧ t.pc = target ∧
      exec .ret t = .next { s with mem := t.mem, display := t.display }

/-! ## Rotates, shifts and bits -/

/-- RLC, RRC, RL and RR of the extended table, on a register or the byte at HL: fZ follows the result, fN and fH are cleared,
fC takes the bit rotated out. A byte that can be read can be written, so only the read can fault
(spec/45_cb_prefixed.md R230 to R237). -/
def Obligations.RotatesOfExtendedTable : Prop :=
  ∀ y z : BitVec 3, y.toNat < 4 →
    HasEncoding (.rot (.ofField y) (.ofField z)) [0xCB#8, opcode 0#2 y z] ∧
    HasCost true (opcode 0#2 y z) (if z = 6#3 then 16 else 8) (if z = 6#3 then 16 else 8) ∧
    (∀ (s : State) (v : Byte), s.r8 (.ofField z) = some v →
      ∃ t, { s with flags := ⟨decide (rotValue (.ofField y) v s.flags.c = 0#8), false, false,
          rotCarry (.ofField y) v⟩ }.setR8 (.ofField z) (rotValue (.ofField y) v s.flags.c) = some t ∧
        exec (.rot (.ofField y) (.ofField z)) s = .next t) ∧
    (∀ s : State, s.r8 (.ofField z) = none →
      exec (.rot (.ofField y) (.ofField z)) s = stoppedAt (.invalidMemoryAccess s.hl .read) s)

/-- SLA, SRA, SWAP and SRL of the extended table, on a register or the byte at HL: fZ follows the result, fN and fH are cleared,
fC takes the bit shifted out, or 0 for SWAP (spec/45_cb_prefixed.md R238 to R245). -/
def Obligations.ShiftsAndSwap : Prop :=
  ∀ y z : BitVec 3, 4 ≤ y.toNat →
    HasEncoding (.rot (.ofField y) (.ofField z)) [0xCB#8, opcode 0#2 y z] ∧
    HasCost true (opcode 0#2 y z) (if z = 6#3 then 16 else 8) (if z = 6#3 then 16 else 8) ∧
    (∀ (s : State) (v : Byte), s.r8 (.ofField z) = some v →
      ∃ t, { s with flags := ⟨decide (rotValue (.ofField y) v s.flags.c = 0#8), false, false,
          rotCarry (.ofField y) v⟩ }.setR8 (.ofField z) (rotValue (.ofField y) v s.flags.c) = some t ∧
        exec (.rot (.ofField y) (.ofField z)) s = .next t) ∧
    (∀ s : State, s.r8 (.ofField z) = none →
      exec (.rot (.ofField y) (.ofField z)) s = stoppedAt (.invalidMemoryAccess s.hl .read) s)

/-- BIT tests a bit into fZ and writes nothing else but fN and fH; RES and SET write one bit and no flag
(spec/45_cb_prefixed.md R246 to R251). -/
def Obligations.BitTestResetSet : Prop :=
  ∀ b z : BitVec 3,
    HasEncoding (.testBit b (.ofField z)) [0xCB#8, opcode 1#2 b z] ∧
    HasCost true (opcode 1#2 b z) (if z = 6#3 then 12 else 8) (if z = 6#3 then 12 else 8) ∧
    HasEncoding (.resetBit b (.ofField z)) [0xCB#8, opcode 2#2 b z] ∧
    HasCost true (opcode 2#2 b z) (if z = 6#3 then 16 else 8) (if z = 6#3 then 16 else 8) ∧
    HasEncoding (.setBit b (.ofField z)) [0xCB#8, opcode 3#2 b z] ∧
    HasCost true (opcode 3#2 b z) (if z = 6#3 then 16 else 8) (if z = 6#3 then 16 else 8) ∧
    (∀ (s : State) (v : Byte), s.r8 (.ofField z) = some v →
      exec (.testBit b (.ofField z)) s =
        .next { s with flags := ⟨decide (v.toNat / 2 ^ b.toNat % 2 = 0), false, true, s.flags.c⟩ } ∧
      (∃ t w, s.setR8 (.ofField z) w = some t ∧ exec (.resetBit b (.ofField z)) s = .next t ∧
        ∀ k, k < 8 → w.getLsbD k = (decide (k ≠ b.toNat) && v.getLsbD k)) ∧
      (∃ t w, s.setR8 (.ofField z) w = some t ∧ exec (.setBit b (.ofField z)) s = .next t ∧
        ∀ k, k < 8 → w.getLsbD k = (decide (k = b.toNat) || v.getLsbD k))) ∧
    (∀ s : State, s.r8 (.ofField z) = none →
      exec (.testBit b (.ofField z)) s = stoppedAt (.invalidMemoryAccess s.hl .read) s ∧
      exec (.resetBit b (.ofField z)) s = stoppedAt (.invalidMemoryAccess s.hl .read) s ∧
      exec (.setBit b (.ofField z)) s = stoppedAt (.invalidMemoryAccess s.hl .read) s)

/-! ## System -/

/-- NOP, HALT, STOP, DI and EI (spec/46_system.md R260, R262, R263, R264; the halting of HALT's own rule is stated by
`HaltedStepOnlyCountsTime` and `HaltedMachineStaysHalted`). -/
def Obligations.SystemInstructions : Prop :=
  (HasEncoding .nop [0x00#8] ∧ HasCost false 0x00#8 4 4 ∧ HasEncoding .halt [0x76#8] ∧ HasCost false 0x76#8 4 4 ∧
    HasEncoding .di [0xF3#8] ∧ HasCost false 0xF3#8 4 4 ∧ HasEncoding .ei [0xFB#8] ∧ HasCost false 0xFB#8 4 4) ∧
  (∀ ignored : Byte,
    HasEncoding (.stop ignored) [0x10#8, ignored] ∧ HasCost false 0x10#8 4 4 ∧ ImmediateFetchStops 0x10#8 1) ∧
  ∀ (s : State) (ignored : Byte),
    exec .nop s = .next s ∧
    exec .halt s = .next { s with halted := true } ∧
    exec (.stop ignored) s = .next { s with halted := true } ∧
    exec .di s = .next { s with ime := false } ∧
    exec .ei s = .next { s with ime := true }

/-- The eleven illegal opcodes stop: a step at one, under every configuration, with `pc` past the opcode byte and nothing else
changed (spec/46_system.md R265, spec/40_step_and_dispatch.md R119). The clause on `exec` is the model's choice and no rule of
the spec, which gives these opcodes no handler: that they are instructions which raise (DESIGN CHOICE, log entry 12), at the
address `pc - 1` (DEDUCED, log entry 5); so is the step under a configuration whose IMPL holds one (DESIGN CHOICE, log entry
10). -/
def Obligations.IllegalOpcodesStop : Prop :=
  ∀ entry ∈ [(Instr.illegalD3, 0xD3#8), (.illegalDB, 0xDB#8), (.illegalDD, 0xDD#8), (.illegalE3, 0xE3#8),
      (.illegalE4, 0xE4#8), (.illegalEB, 0xEB#8), (.illegalEC, 0xEC#8), (.illegalED, 0xED#8), (.illegalF4, 0xF4#8),
      (.illegalFC, 0xFC#8), (.illegalFD, 0xFD#8)],
    HasEncoding entry.1 [entry.2] ∧
    (∀ s : State, exec entry.1 s =
      stoppedAt (.unimplementedInstruction false entry.2 (s.pc - 1) (s.pc - 1)) s) ∧
    (∀ (cfg : Config) (s : State), s.Running → (bootUnmapCheck s).peek s.pc = some entry.2 →
      stepWith cfg s = stoppedAt (.unimplementedInstruction false entry.2 s.pc s.pc)
        { bootUnmapCheck s with pc := s.pc + 1 })

/-! ## The Display Unit -/

/-- One `advance`: below the mode's budget it only counts; at or above it the mode completes, at most one mode a call, and the
mode clock returns to 0; entering VBlank counts a frame and fires the notification (spec/60_exceptions.md R320 to R324, R327). -/
def Obligations.AdvanceCompletesOneMode : Prop :=
  ∀ (d : Display) (mem : Memory) (n : Nat),
    let budget := match d.mode with
      | .oamScan => 80
      | .vramRead => 172
      | .hBlank => 204
      | .vBlank => 456
    (d.modeClock + n < budget → d.advance mem n = ({ d with modeClock := d.modeClock + n }, [])) ∧
    (budget ≤ d.modeClock + n → d.advance mem n =
      match d.mode with
      | .oamScan => ({ d with mode := .vramRead, modeClock := 0 }, [])
      | .vramRead => ({ d with fb := (d.renderScanline mem).fb, mode := .hBlank, modeClock := 0 }, [])
      | .hBlank =>
        if d.scanline + 1 = 143 then
          ({ d with modeClock := 0, scanline := 143, mode := .vBlank, frames := d.frames + 1 }, [.frameReady])
        else ({ d with modeClock := 0, scanline := d.scanline + 1, mode := .oamScan }, [])
      | .vBlank =>
        if d.scanline ≥ 153 then ({ d with modeClock := 0, scanline := 0, mode := .oamScan }, [])
        else ({ d with modeClock := 0, scanline := d.scanline + 1 }, []))

/-- The frame sequence: from a frame's start, with advances of 1, 2 or 4 cycles, VBlank is entered at cycle 65208 on line 143 with
one frame counted, the frame ends at cycle 70224 back at line 0 with that one frame counted, and row 143 of the picture is as
it was, whatever memory holds meanwhile (spec/60_exceptions.md R325). -/
def Obligations.FrameSequence : Prop :=
  ∀ (d : Display) (mems : Nat → Memory) (n : Nat), n = 1 ∨ n = 2 ∨ n = 4 →
    d.mode = .oamScan → d.scanline = 0 → d.modeClock = 0 →
    (∀ k, k * n < 65208 → (d.advances mems n k).mode ≠ .vBlank ∧ (d.advances mems n k).frames = d.frames) ∧
    (let v := d.advances mems n (65208 / n)
     v.mode = .vBlank ∧ v.scanline = 143 ∧ v.modeClock = 0 ∧ v.frames = d.frames + 1) ∧
    (let w := d.advances mems n (70224 / n)
     w.mode = .oamScan ∧ w.scanline = 0 ∧ w.modeClock = 0 ∧ w.frames = d.frames + 1 ∧ w.fb.row 143 = d.fb.row 143)

/-- The renderer writes the row of the current scanline and no other, and each of its 160 pixels is the closed form of
`Display.shadeAt`, at every scroll, tile map, tile table and palette (spec/60_exceptions.md R330 to R333). -/
def Obligations.RenderedScanlineClosedForm : Prop :=
  ∀ (d : Display) (mem : Memory), d.fb.wf = true →
    (∀ px, px < 160 → (d.renderScanline mem).pixel px d.scanline = d.shadeAt mem.read px) ∧
    (∀ px row, row ≠ d.scanline → (d.renderScanline mem).pixel px row = d.pixel px row) ∧
    d.renderScanline mem = { d with fb := (d.renderScanline mem).fb }

/-- The picture depends on VRAM alone: two memories that agree on 0x8000-0x9FFF render alike, whatever OAM, ROM and the rest hold
(spec/60_exceptions.md R334). -/
def Obligations.RendererReadsOnlyVideoRam : Prop :=
  ∀ (d : Display) (mem mem' : Memory),
    (∀ addr, 0x8000 ≤ addr → addr ≤ 0x9FFF → mem.read addr = mem'.read addr) →
    d.renderScanline mem = d.renderScanline mem'

/-! ## Reset and the invariant -/

/-- The invariant is kept by every step under every configuration: memory and picture in canonical form, the timing state in
range, `notTaken` clear, no fault recorded (spec/10_state.md R24, R29, R34, R35). -/
def Obligations.InvariantKeptByStep : Prop :=
  ∀ (cfg : Config) (s t : State), s.Inv → stepWith cfg s = .next t → t.Inv

/-- Reset gives the values the spec states (spec/70_reset_and_hazards.md R350, R352), and the invariant holds there. The registers, SP,
the flags and the unwritten bytes are left out: their values are the model's own (log entries 1 and 2). -/
def Obligations.ResetState : Prop :=
  State.reset.Inv ∧
  State.reset.pc = 0x0100#16 ∧ State.reset.notTaken = false ∧ State.reset.clkCoarse = 0#8 ∧
  State.reset.clkFine = 0#8 ∧ State.reset.halted = false ∧ State.reset.ime = false ∧ State.reset.fault = none ∧
  State.reset.bootActive = false ∧ State.reset.display.mode = .oamScan ∧ State.reset.display.scanline = 0 ∧
  State.reset.display.modeClock = 0 ∧ State.reset.display.lcdc = 0#8 ∧ State.reset.display.scy = 0#8 ∧
  State.reset.display.scx = 0#8 ∧ State.reset.display.bgp = 0#8 ∧ State.reset.display.frames = 0 ∧
  ∀ x y, State.reset.pixel x y = 0#2

/-- A reset with any draws and any images of admitted lengths satisfies the invariant; A to L, SP and the flags are the drawn
values; it starts at 0x0000 with the overlay mapped or at 0x0100 with it unmapped; memory holds the images, and every byte of
every region outside them is the given initial memory's. An image outside its bounds is refused (spec/70_reset_and_hazards.md
R350, R351, R354). That the initial memory is given in canonical form is the model's own premise. -/
def Obligations.ResetLoadsImages : Prop :=
  ∀ args : ResetArgs, args.initMem.wf = true →
    (32768 < args.rom.length → State.resetWith args = .refused (.romImageTooLong args.rom.length)) ∧
    (∀ image, args.rom.length ≤ 32768 → args.boot = some image → image.length ≠ 256 →
      State.resetWith args = .refused (.bootImageNot256 image.length)) ∧
    (args.rom.length ≤ 32768 → args.boot = none →
      ∃ s, State.resetWith args = .next s ∧ s.Inv ∧ args.Builds false s ∧
        (∀ k, k < args.rom.length → s.peek (BitVec.ofNat 16 k) = args.rom[k]?) ∧
        (∀ (r : Region) (k : Nat), k < r.size → ¬(r = .rom ∧ k < args.rom.length) →
          s.mem.read (r.base + k) = args.initMem.read (r.base + k))) ∧
    (∀ image, args.rom.length ≤ 32768 → args.boot = some image → image.length = 256 →
      ∃ s, State.resetWith args = .next s ∧ s.Inv ∧ args.Builds true s ∧
        (∀ k, k < 256 → s.peek (BitVec.ofNat 16 k) = image[k]?) ∧
        (∀ k, 256 ≤ k → k < args.rom.length → s.peek (BitVec.ofNat 16 k) = args.rom[k]?) ∧
        (∀ k, k < args.rom.length → { s with bootActive := false }.peek (BitVec.ofNat 16 k) = args.rom[k]?) ∧
        (∀ (r : Region) (k : Nat), k < r.size → r ≠ .boot → ¬(r = .rom ∧ k < args.rom.length) →
          s.mem.read (r.base + k) = args.initMem.read (r.base + k)))
end

