-- ==== Sys2Proof/Laws/Sparse.lean ====
section
/-! SUPPORT. The laws of sparse lists: read after write, and the canonical form kept. -/

namespace Sys2Proof.Machine.Sparse

variable {β : Type} [DecidableEq β] {dflt v : β} {key other : Nat} {m : List (Nat × β)}

omit [DecidableEq β] in
@[simp] theorem get_nil : get dflt [] key = dflt := rfl

omit [DecidableEq β] in
/-- An entry below every listed key reads as unlisted. -/
theorem get_of_above (h : above key m = true) : get dflt m key = dflt := by
  induction m with
  | nil => rfl
  | cons cell m ih =>
    simp only [above, List.all_cons, Bool.and_eq_true, decide_eq_true_eq] at h
    simp only [get, if_neg (Nat.ne_of_gt h.1)]
    exact ih h.2

omit [DecidableEq β] in
/-- What is above a key is above every smaller one. -/
theorem above_mono (h : above key m = true) (hle : other ≤ key) : above other m = true := by
  simp only [above, List.all_eq_true, decide_eq_true_eq] at h ⊢
  exact fun cell hc => Nat.lt_of_le_of_lt hle (h cell hc)

theorem wf_cons {k : Nat} {w : β} :
    wf dflt ((k, w) :: m) = true ↔ above k m = true ∧ w ≠ dflt ∧ wf dflt m = true := by
  simp [wf, and_assoc]

/-- A write leaves every other key alone. -/
theorem get_set_of_ne (h : other ≠ key) : get dflt (set dflt m key v) other = get dflt m other := by
  induction m with
  | nil => unfold set; split <;> simp [get, h.symm]
  | cons cell m ih =>
    obtain ⟨k, w⟩ := cell
    unfold set
    split
    · split <;> simp [get, h.symm]
    · split
      · rename_i heq
        split <;> simp [get, h.symm, ← heq]
      · simp only [get, ih]

/-- A read after a write to the same key gives the value written. -/
theorem get_set_self (hwf : wf dflt m = true) : get dflt (set dflt m key v) key = v := by
  induction m with
  | nil => unfold set; split <;> simp_all [get]
  | cons cell m ih =>
    obtain ⟨k, w⟩ := cell
    obtain ⟨habove, _, hm⟩ := wf_cons.mp hwf
    unfold set
    split
    · rename_i hlt
      split
      · rename_i hv
        simp only [get, if_neg (Nat.ne_of_gt hlt), hv]
        exact get_of_above (above_mono habove (Nat.le_of_lt hlt))
      · simp [get]
    · split
      · rename_i heq
        split
        · rename_i hv
          rw [hv, heq]
          exact get_of_above habove
        · simp [get]
      · rename_i hne
        simp only [get, if_neg (Ne.symm hne)]
        exact ih hm

/-- A write at a key above a bound keeps the list above it. -/
theorem above_set (h : above other m = true) (hlt : other < key) : above other (set dflt m key v) = true := by
  induction m with
  | nil => unfold set; split <;> simp [above, hlt]
  | cons cell m ih =>
    obtain ⟨k, w⟩ := cell
    simp only [above, List.all_cons, Bool.and_eq_true, decide_eq_true_eq] at h
    have ih' := ih h.2
    unfold set
    simp only [above] at ih' ⊢
    split
    · split <;> simp [h.1, h.2, hlt]
    · split
      · split <;> simp [h.2, hlt]
      · simp [h.1, ih']

/-- A write keeps the canonical form. -/
theorem wf_set (hwf : wf dflt m = true) : wf dflt (set dflt m key v) = true := by
  induction m with
  | nil => unfold set; split <;> simp_all [wf, above]
  | cons cell m ih =>
    obtain ⟨k, w⟩ := cell
    obtain ⟨habove, hw, hm⟩ := wf_cons.mp hwf
    unfold set
    split
    · rename_i hlt
      split
      · exact hwf
      · rename_i hv
        refine wf_cons.mpr ⟨?_, hv, hwf⟩
        simp only [above, List.all_cons, Bool.and_eq_true, decide_eq_true_eq]
        exact ⟨hlt, above_mono habove (Nat.le_of_lt hlt)⟩
    · split
      · rename_i heq
        split
        · exact hm
        · rename_i hv
          exact wf_cons.mpr ⟨heq ▸ habove, hv, hm⟩
      · rename_i hge hne
        exact wf_cons.mpr ⟨above_set habove (by omega), hw, ih hm⟩

/-- What holds of every entry and of the new one holds of every entry after a write. -/
theorem all_set {p : Nat × β → Bool} (h : m.all p = true) (hp : p (key, v) = true) :
    (set dflt m key v).all p = true := by
  induction m with
  | nil => unfold set; split <;> simp [hp]
  | cons cell m ih =>
    obtain ⟨k, w⟩ := cell
    simp only [List.all_cons, Bool.and_eq_true] at h
    unfold set
    split
    · split <;> simp_all
    · split
      · split <;> simp_all
      · rw [List.all_cons, h.1, ih h.2]; rfl

/-- Lists in canonical form that read alike are equal. -/
theorem eq_of_get_eq {m' : List (Nat × β)} (h : wf dflt m = true) (h' : wf dflt m' = true)
    (heq : ∀ key, get dflt m key = get dflt m' key) : m = m' := by
  induction m generalizing m' with
  | nil =>
    cases m' with
    | nil => rfl
    | cons cell m' =>
      obtain ⟨k, w⟩ := cell
      obtain ⟨_, hw, _⟩ := wf_cons.mp h'
      have := heq k
      simp only [get, if_true] at this
      exact absurd this.symm hw
  | cons cell m ih =>
    obtain ⟨k, w⟩ := cell
    obtain ⟨ha, hw, hm⟩ := wf_cons.mp h
    cases m' with
    | nil =>
      have := heq k
      simp only [get, if_true] at this
      exact absurd this hw
    | cons cell' m' =>
      obtain ⟨k', w'⟩ := cell'
      obtain ⟨ha', hw', hm'⟩ := wf_cons.mp h'
      have hk : k = k' := by
        rcases Nat.lt_trichotomy k k' with hlt | heq' | hgt
        · have := heq k
          simp only [get, if_true, if_neg (Nat.ne_of_gt hlt)] at this
          rw [get_of_above (above_mono ha' (Nat.le_of_lt hlt))] at this
          exact absurd this hw
        · exact heq'
        · have := heq k'
          simp only [get, if_true, if_neg (Nat.ne_of_gt hgt)] at this
          rw [get_of_above (above_mono ha (Nat.le_of_lt hgt))] at this
          exact absurd this.symm hw'
      subst hk
      have hww : w = w' := by simpa [get] using heq k
      subst hww
      have : m = m' := ih hm hm' fun key => by
        by_cases hkey : k = key
        · subst hkey
          rw [get_of_above ha, get_of_above ha']
        · simpa [get, hkey] using heq key
      rw [this]

end Sys2Proof.Machine.Sparse
end

