-- ==== Sys2Proof/Laws/Display.lean ====
section
/-! SUPPORT. The laws of the framebuffer: a row written reads back, every other row is left alone, the canonical form is kept. -/

namespace Sys2Proof.Machine

theorem Display.length_renderPixels (d : Display) (mem : Memory) (row y n x col : Nat) (t : Byte) :
    (d.renderPixels mem row y n x col t).length = n := by
  induction n generalizing x col t with
  | zero => rfl
  | succ n ih =>
    unfold Display.renderPixels
    split <;> simp [ih]

/-- A rendered row is 160 pixels wide (spec/10_state.md R41). -/
@[simp] theorem Display.length_renderRow (d : Display) (mem : Memory) : (d.renderRow mem).length = 160 :=
  Display.length_renderPixels ..

theorem Framebuffer.wf_iff {fb : Framebuffer} : fb.wf = true ↔ Sparse.wf blankRow fb = true ∧
    (fb.all fun row => decide (row.1 < 144) && decide (row.2.length = 160)) = true := by
  simp [Framebuffer.wf]

theorem Framebuffer.wf_setRow {fb : Framebuffer} {y : Nat} {r : Row} (h : fb.wf = true) (hy : y < 144)
    (hr : r.length = 160) : (fb.setRow y r).wf = true := by
  obtain ⟨hs, ha⟩ := Framebuffer.wf_iff.mp h
  exact Framebuffer.wf_iff.mpr ⟨Sparse.wf_set hs, Sparse.all_set ha (by simp [hy, hr])⟩

theorem Framebuffer.row_setRow_self {fb : Framebuffer} {y : Nat} {r : Row} (h : fb.wf = true) :
    (fb.setRow y r).row y = r := Sparse.get_set_self (Framebuffer.wf_iff.mp h).1

theorem Framebuffer.row_setRow_of_ne {fb : Framebuffer} {y other : Nat} {r : Row} (h : other ≠ y) :
    (fb.setRow y r).row other = fb.row other := Sparse.get_set_of_ne h

theorem Display.renderPixels_modeClock (d : Display) (mem : Memory) (k row y n x col : Nat) (t : Byte) :
    ({ d with modeClock := k } : Display).renderPixels mem row y n x col t = d.renderPixels mem row y n x col t := by
  induction n generalizing x col t with
  | zero => rfl
  | succ n ih =>
    unfold Display.renderPixels
    simp only [ih]
    rfl

/-- What is rendered does not depend on the mode clock. -/
@[simp] theorem Display.renderRow_modeClock (d : Display) (mem : Memory) (k : Nat) :
    ({ d with modeClock := k } : Display).renderRow mem = d.renderRow mem :=
  Display.renderPixels_modeClock ..

/-- Below the mode's budget an advance only counts. -/
theorem Display.advance_of_lt {d : Display} {mem : Memory} {n : Nat} (h : d.modeClock + n < d.mode.budget) :
    d.advance mem n = ({ d with modeClock := d.modeClock + n }, []) := by
  simp [Display.advance, h]

end Sys2Proof.Machine
end

