-- ==== Sys2Proof/Laws/Memory.lean ====
section
/-! SUPPORT. The laws of the Address Router: where addresses lead, what a write can do, read after write, and the canonical form
of memory kept by every operation on it. -/

namespace Sys2Proof.Machine

/-! ## Memory as a whole -/

theorem Memory.wf_nil : Memory.wf [] = true := rfl

theorem Memory.wf_iff {m : Memory} :
    m.wf = true ↔ Sparse.wf Config.initByte m = true ∧ (m.all fun cell => Memory.isKey cell.1) = true := by
  simp [Memory.wf]

/-- A store to a key of a region keeps the canonical form. -/
theorem Memory.wf_write {m : Memory} {key : Nat} {v : Byte} (h : m.wf = true) (hkey : Memory.isKey key = true) :
    (m.write key v).wf = true := by
  obtain ⟨hs, ha⟩ := Memory.wf_iff.mp h
  exact Memory.wf_iff.mpr ⟨Sparse.wf_set hs, Sparse.all_set ha hkey⟩

theorem Memory.read_write_self {m : Memory} {key : Nat} {v : Byte} (h : m.wf = true) :
    (m.write key v).read key = v := Sparse.get_set_self (Memory.wf_iff.mp h).1

theorem Memory.read_write_of_ne {m : Memory} {key other : Nat} {v : Byte} (h : other ≠ key) :
    (m.write key v).read other = m.read other := Sparse.get_set_of_ne h

/-! ## Routing (spec/20_memory.md R51, R53) -/

/-- Every routed index lies inside its region (R53). -/
theorem route_index_lt {ba : Bool} {addr : Word} {r : Region} {i : Nat} (h : route ba addr = .storage r i) :
    i < r.size := by
  have hlt := addr.isLt
  unfold route at h
  generalize addr.toNat = a at h hlt
  simp only at h
  have hw : windowDest a ≠ .storage r i := by
    unfold windowDest
    repeat' split
    all_goals exact nofun
  repeat' split at h
  all_goals first
    | contradiction
    | (injection h with hr hi
       subst hr hi
       simp only [Region.size]
       omega)

theorem Memory.isKey_iff {key : Nat} : Memory.isKey key = true ↔
    key < 0xE000 ∨ (0xFE00 ≤ key ∧ key < 0xFEA0) ∨ (0xFF80 ≤ key ∧ key < 0x10100) := by
  simp [Memory.isKey, or_assoc]

/-- A routed index's key belongs to a region. -/
theorem isKey_of_index_lt {r : Region} {i : Nat} (h : i < r.size) : Memory.isKey (r.base + i) = true := by
  rw [Memory.isKey_iff]
  cases r <;> simp only [Region.size, Region.base] at h ⊢ <;> omega

/-- Two bytes of storage with one key are one byte. -/
theorem region_key_inj {r r' : Region} {i i' : Nat} (h : i < r.size) (h' : i' < r'.size)
    (heq : r.base + i = r'.base + i') : r = r' ∧ i = i' := by
  cases r <;> cases r' <;> simp only [Region.size, Region.base] at h h' heq <;>
    first
      | exact ⟨rfl, by omega⟩
      | (exfalso; omega)

/-! ## Reading and writing a byte (R54, R57) -/

/-- A read is answered exactly where a write is. -/
theorem State.peek_isSome_iff_poke {s : State} {addr : Word} {v : Byte} :
    (s.peek addr).isSome = (s.poke addr v).isSome := by
  unfold State.peek State.poke
  split <;> rfl

theorem State.peek_eq_none_iff {s : State} {addr : Word} :
    s.peek addr = none ↔ route s.bootActive addr = .unmapped := by
  unfold State.peek
  split <;> simp_all

theorem State.poke_eq_none_iff {s : State} {addr : Word} {v : Byte} :
    s.poke addr v = none ↔ route s.bootActive addr = .unmapped := by
  unfold State.poke
  split <;> simp_all

/-- All a write can do: one byte of storage changes, or one display register is written. -/
theorem State.poke_cases {s t : State} {addr : Word} {v : Byte} (h : s.poke addr v = some t) :
    (∃ r i, route s.bootActive addr = .storage r i ∧ i < r.size ∧ t = { s with mem := s.mem.write (r.base + i) v }) ∨
    (∃ r, route s.bootActive addr = .register r ∧ t = { s with display := s.display.writeReg r v }) := by
  unfold State.poke at h
  split at h
  · rename_i r i hr
    exact .inl ⟨r, i, hr, route_index_lt hr, (Option.some.inj h).symm⟩
  · rename_i r hr
    exact .inr ⟨r, hr, (Option.some.inj h).symm⟩
  · contradiction

/-- A write touches nothing but memory and the display. -/
theorem State.poke_frame {s t : State} {addr : Word} {v : Byte} (h : s.poke addr v = some t) :
    t = { s with mem := t.mem, display := t.display } := by
  obtain ⟨r, i, _, _, rfl⟩ | ⟨r, _, rfl⟩ := State.poke_cases h <;> rfl

/-- A write of a display register leaves the timing state, the framebuffer and the frame count alone
(spec/60_exceptions.md R320). -/
theorem Display.writeReg_frame (d : Display) (r : DisplayReg) (v : Byte) :
    (d.writeReg r v).mode = d.mode ∧ (d.writeReg r v).scanline = d.scanline ∧
      (d.writeReg r v).modeClock = d.modeClock ∧ (d.writeReg r v).fb = d.fb ∧ (d.writeReg r v).frames = d.frames := by
  cases r <;> exact ⟨rfl, rfl, rfl, rfl, rfl⟩

/-- A write keeps memory's canonical form. -/
theorem State.poke_wf {s t : State} {addr : Word} {v : Byte} (h : s.poke addr v = some t) (hwf : s.mem.wf = true) :
    t.mem.wf = true := by
  obtain ⟨r, i, _, hi, rfl⟩ | ⟨r, _, rfl⟩ := State.poke_cases h
  · exact Memory.wf_write hwf (isKey_of_index_lt hi)
  · exact hwf

/-- A write through `setR8` is a write of a register or of the byte at HL. -/
theorem State.setR8_cases {s t : State} {z : R8} {v : Byte} (h : s.setR8 z v = some t) :
    (z = .atHl ∧ s.poke s.hl v = some t) ∨
    (z ≠ .atHl ∧ t = { s with a := t.a, b := t.b, c := t.c, d := t.d, e := t.e, h := t.h, l := t.l }) := by
  cases z
  case atHl => exact .inl ⟨rfl, h⟩
  all_goals
    refine .inr ⟨by decide, ?_⟩
    cases h
    rfl

/-- An operand that can be read can be written. -/
theorem State.r8_isSome_iff_setR8 {s : State} {z : R8} {v : Byte} :
    (s.r8 z).isSome = (s.setR8 z v).isSome := by
  cases z
  case atHl => exact State.peek_isSome_iff_poke
  all_goals rfl

/-- Only the `(HL)` operand can fault. -/
theorem State.r8_eq_none_iff {s : State} {z : R8} :
    s.r8 z = none ↔ z = .atHl ∧ s.peek s.hl = none := by
  cases z <;> simp [State.r8]

end Sys2Proof.Machine
end

