-- ==== Sys2Proof/Laws/State.lean ====
section
/-! SUPPORT. One lemma per field per named update of the state, so that no proof unfolds a record update. -/

namespace Sys2Proof.Machine

variable (s : State) (v : Word) (cost : Byte)

/-! ## `setBc` -/

@[simp] theorem State.setBc_a : (s.setBc v).a = s.a := rfl
@[simp] theorem State.setBc_b : (s.setBc v).b = highByte v := rfl
@[simp] theorem State.setBc_c : (s.setBc v).c = lowByte v := rfl
@[simp] theorem State.setBc_d : (s.setBc v).d = s.d := rfl
@[simp] theorem State.setBc_e : (s.setBc v).e = s.e := rfl
@[simp] theorem State.setBc_h : (s.setBc v).h = s.h := rfl
@[simp] theorem State.setBc_l : (s.setBc v).l = s.l := rfl
@[simp] theorem State.setBc_sp : (s.setBc v).sp = s.sp := rfl
@[simp] theorem State.setBc_pc : (s.setBc v).pc = s.pc := rfl
@[simp] theorem State.setBc_flags : (s.setBc v).flags = s.flags := rfl
@[simp] theorem State.setBc_notTaken : (s.setBc v).notTaken = s.notTaken := rfl
@[simp] theorem State.setBc_clkCoarse : (s.setBc v).clkCoarse = s.clkCoarse := rfl
@[simp] theorem State.setBc_clkFine : (s.setBc v).clkFine = s.clkFine := rfl
@[simp] theorem State.setBc_halted : (s.setBc v).halted = s.halted := rfl
@[simp] theorem State.setBc_ime : (s.setBc v).ime = s.ime := rfl
@[simp] theorem State.setBc_fault : (s.setBc v).fault = s.fault := rfl
@[simp] theorem State.setBc_bootActive : (s.setBc v).bootActive = s.bootActive := rfl
@[simp] theorem State.setBc_mem : (s.setBc v).mem = s.mem := rfl
@[simp] theorem State.setBc_display : (s.setBc v).display = s.display := rfl
@[simp] theorem State.setBc_events : (s.setBc v).events = s.events := rfl

/-! ## `setDe` -/

@[simp] theorem State.setDe_a : (s.setDe v).a = s.a := rfl
@[simp] theorem State.setDe_b : (s.setDe v).b = s.b := rfl
@[simp] theorem State.setDe_c : (s.setDe v).c = s.c := rfl
@[simp] theorem State.setDe_d : (s.setDe v).d = highByte v := rfl
@[simp] theorem State.setDe_e : (s.setDe v).e = lowByte v := rfl
@[simp] theorem State.setDe_h : (s.setDe v).h = s.h := rfl
@[simp] theorem State.setDe_l : (s.setDe v).l = s.l := rfl
@[simp] theorem State.setDe_sp : (s.setDe v).sp = s.sp := rfl
@[simp] theorem State.setDe_pc : (s.setDe v).pc = s.pc := rfl
@[simp] theorem State.setDe_flags : (s.setDe v).flags = s.flags := rfl
@[simp] theorem State.setDe_notTaken : (s.setDe v).notTaken = s.notTaken := rfl
@[simp] theorem State.setDe_clkCoarse : (s.setDe v).clkCoarse = s.clkCoarse := rfl
@[simp] theorem State.setDe_clkFine : (s.setDe v).clkFine = s.clkFine := rfl
@[simp] theorem State.setDe_halted : (s.setDe v).halted = s.halted := rfl
@[simp] theorem State.setDe_ime : (s.setDe v).ime = s.ime := rfl
@[simp] theorem State.setDe_fault : (s.setDe v).fault = s.fault := rfl
@[simp] theorem State.setDe_bootActive : (s.setDe v).bootActive = s.bootActive := rfl
@[simp] theorem State.setDe_mem : (s.setDe v).mem = s.mem := rfl
@[simp] theorem State.setDe_display : (s.setDe v).display = s.display := rfl
@[simp] theorem State.setDe_events : (s.setDe v).events = s.events := rfl

/-! ## `setHl` -/

@[simp] theorem State.setHl_a : (s.setHl v).a = s.a := rfl
@[simp] theorem State.setHl_b : (s.setHl v).b = s.b := rfl
@[simp] theorem State.setHl_c : (s.setHl v).c = s.c := rfl
@[simp] theorem State.setHl_d : (s.setHl v).d = s.d := rfl
@[simp] theorem State.setHl_e : (s.setHl v).e = s.e := rfl
@[simp] theorem State.setHl_h : (s.setHl v).h = highByte v := rfl
@[simp] theorem State.setHl_l : (s.setHl v).l = lowByte v := rfl
@[simp] theorem State.setHl_sp : (s.setHl v).sp = s.sp := rfl
@[simp] theorem State.setHl_pc : (s.setHl v).pc = s.pc := rfl
@[simp] theorem State.setHl_flags : (s.setHl v).flags = s.flags := rfl
@[simp] theorem State.setHl_notTaken : (s.setHl v).notTaken = s.notTaken := rfl
@[simp] theorem State.setHl_clkCoarse : (s.setHl v).clkCoarse = s.clkCoarse := rfl
@[simp] theorem State.setHl_clkFine : (s.setHl v).clkFine = s.clkFine := rfl
@[simp] theorem State.setHl_halted : (s.setHl v).halted = s.halted := rfl
@[simp] theorem State.setHl_ime : (s.setHl v).ime = s.ime := rfl
@[simp] theorem State.setHl_fault : (s.setHl v).fault = s.fault := rfl
@[simp] theorem State.setHl_bootActive : (s.setHl v).bootActive = s.bootActive := rfl
@[simp] theorem State.setHl_mem : (s.setHl v).mem = s.mem := rfl
@[simp] theorem State.setHl_display : (s.setHl v).display = s.display := rfl
@[simp] theorem State.setHl_events : (s.setHl v).events = s.events := rfl

/-! ## `tick` -/

@[simp] theorem tick_a : (tick cost s).a = s.a := rfl
@[simp] theorem tick_b : (tick cost s).b = s.b := rfl
@[simp] theorem tick_c : (tick cost s).c = s.c := rfl
@[simp] theorem tick_d : (tick cost s).d = s.d := rfl
@[simp] theorem tick_e : (tick cost s).e = s.e := rfl
@[simp] theorem tick_h : (tick cost s).h = s.h := rfl
@[simp] theorem tick_l : (tick cost s).l = s.l := rfl
@[simp] theorem tick_sp : (tick cost s).sp = s.sp := rfl
@[simp] theorem tick_pc : (tick cost s).pc = s.pc := rfl
@[simp] theorem tick_flags : (tick cost s).flags = s.flags := rfl
@[simp] theorem tick_notTaken : (tick cost s).notTaken = false := rfl
@[simp] theorem tick_clkCoarse : (tick cost s).clkCoarse = s.clkCoarse + BitVec.ofNat 8 (cost.toNat / 4) := rfl
@[simp] theorem tick_clkFine : (tick cost s).clkFine = s.clkFine + cost := rfl
@[simp] theorem tick_halted : (tick cost s).halted = s.halted := rfl
@[simp] theorem tick_ime : (tick cost s).ime = s.ime := rfl
@[simp] theorem tick_fault : (tick cost s).fault = s.fault := rfl
@[simp] theorem tick_bootActive : (tick cost s).bootActive = s.bootActive := rfl
@[simp] theorem tick_mem : (tick cost s).mem = s.mem := rfl
@[simp] theorem tick_display : (tick cost s).display = (s.display.advance s.mem (cost.toNat / 4)).1 := rfl
@[simp] theorem tick_events : (tick cost s).events = (s.display.advance s.mem (cost.toNat / 4)).2 := rfl

/-! ## `bootUnmapCheck`: nothing but the overlay flag -/

theorem bootUnmapCheck_eq :
    bootUnmapCheck s = { s with bootActive := s.bootActive && decide (s.pc.toNat < 0x0100) } := by
  unfold bootUnmapCheck
  obtain hb | hb := Bool.eq_false_or_eq_true s.bootActive <;> by_cases hp : s.pc.toNat < 0x0100 <;>
    simp [hb, hp, Nat.not_le.mpr, Nat.not_lt.mp] <;> (rw [← hb])

@[simp] theorem bootUnmapCheck_a : (bootUnmapCheck s).a = s.a := by rw [bootUnmapCheck_eq]
@[simp] theorem bootUnmapCheck_b : (bootUnmapCheck s).b = s.b := by rw [bootUnmapCheck_eq]
@[simp] theorem bootUnmapCheck_c : (bootUnmapCheck s).c = s.c := by rw [bootUnmapCheck_eq]
@[simp] theorem bootUnmapCheck_d : (bootUnmapCheck s).d = s.d := by rw [bootUnmapCheck_eq]
@[simp] theorem bootUnmapCheck_e : (bootUnmapCheck s).e = s.e := by rw [bootUnmapCheck_eq]
@[simp] theorem bootUnmapCheck_h : (bootUnmapCheck s).h = s.h := by rw [bootUnmapCheck_eq]
@[simp] theorem bootUnmapCheck_l : (bootUnmapCheck s).l = s.l := by rw [bootUnmapCheck_eq]
@[simp] theorem bootUnmapCheck_sp : (bootUnmapCheck s).sp = s.sp := by rw [bootUnmapCheck_eq]
@[simp] theorem bootUnmapCheck_pc : (bootUnmapCheck s).pc = s.pc := by rw [bootUnmapCheck_eq]
@[simp] theorem bootUnmapCheck_flags : (bootUnmapCheck s).flags = s.flags := by rw [bootUnmapCheck_eq]
@[simp] theorem bootUnmapCheck_notTaken : (bootUnmapCheck s).notTaken = s.notTaken := by rw [bootUnmapCheck_eq]
@[simp] theorem bootUnmapCheck_clkCoarse : (bootUnmapCheck s).clkCoarse = s.clkCoarse := by rw [bootUnmapCheck_eq]
@[simp] theorem bootUnmapCheck_clkFine : (bootUnmapCheck s).clkFine = s.clkFine := by rw [bootUnmapCheck_eq]
@[simp] theorem bootUnmapCheck_halted : (bootUnmapCheck s).halted = s.halted := by rw [bootUnmapCheck_eq]
@[simp] theorem bootUnmapCheck_ime : (bootUnmapCheck s).ime = s.ime := by rw [bootUnmapCheck_eq]
@[simp] theorem bootUnmapCheck_fault : (bootUnmapCheck s).fault = s.fault := by rw [bootUnmapCheck_eq]
@[simp] theorem bootUnmapCheck_mem : (bootUnmapCheck s).mem = s.mem := by rw [bootUnmapCheck_eq]
@[simp] theorem bootUnmapCheck_display : (bootUnmapCheck s).display = s.display := by rw [bootUnmapCheck_eq]
@[simp] theorem bootUnmapCheck_events : (bootUnmapCheck s).events = s.events := by rw [bootUnmapCheck_eq]
@[simp] theorem bootUnmapCheck_bootActive :
    (bootUnmapCheck s).bootActive = (s.bootActive && decide (s.pc.toNat < 0x0100)) := by rw [bootUnmapCheck_eq]

/-! ## Bytes and words -/

@[simp] theorem highByte_joinBytes (hi lo : Byte) : highByte (joinBytes hi lo) = hi := by
  apply BitVec.eq_of_getLsbD_eq
  intro i h
  simp [highByte, joinBytes, h, show 8 + i < 16 by omega]

@[simp] theorem lowByte_joinBytes (hi lo : Byte) : lowByte (joinBytes hi lo) = lo := by
  apply BitVec.eq_of_getLsbD_eq
  intro i h
  simp [lowByte, joinBytes, h, show i < 16 by omega]

@[simp] theorem joinBytes_high_low (w : Word) : joinBytes (highByte w) (lowByte w) = w := by
  apply BitVec.eq_of_getLsbD_eq
  intro i h
  by_cases h8 : i < 8
  · simp [highByte, lowByte, joinBytes, h8, h]
  · simp [highByte, lowByte, joinBytes, h8, h, show i - 8 < 8 by omega, show 8 + (i - 8) = i by omega]

/-- A pair read after it was written gives the value written (spec/40_step_and_dispatch.md R105, R106). -/
@[simp] theorem State.setBc_bc : (s.setBc v).bc = v := joinBytes_high_low v

@[simp] theorem State.setDe_de : (s.setDe v).de = v := joinBytes_high_low v

@[simp] theorem State.setHl_hl : (s.setHl v).hl = v := joinBytes_high_low v

/-! ## The flag byte -/

/-- Packing and unpacking the flags loses nothing (spec/10_state.md R23). -/
@[simp] theorem Flags.ofByte_toByte (f : Flags) : Flags.ofByte f.toByte = f := by
  obtain ⟨z, n, h, c⟩ := f
  cases z <;> cases n <;> cases h <;> cases c <;> decide

end Sys2Proof.Machine
end

