-- ==== Sys2Proof/Laws/Ops.lean ====
section
/-! SUPPORT. What each shared operation does, once: by equations where its accesses are known to be answered, and by one
law that follows any closed property of states through it. -/

namespace Sys2Proof.Machine

/-! ## Equations -/

theorem readByte_some {k : AccessKind} {addr : Word} {s : State} {f : Byte → Out} {v : Byte}
    (h : s.peek addr = some v) : readByte k addr s f = f v := by simp [readByte, h]

theorem readByte_none {k : AccessKind} {addr : Word} {s : State} {f : Byte → Out}
    (h : s.peek addr = none) : readByte k addr s f = raise (.invalidMemoryAccess addr k) s := by simp [readByte, h]

theorem writeByte_some {addr : Word} {v : Byte} {s t : State} {f : State → Out}
    (h : s.poke addr v = some t) : writeByte addr v s f = f t := by simp [writeByte, h]

theorem writeByte_none {addr : Word} {v : Byte} {s : State} {f : State → Out}
    (h : s.poke addr v = none) : writeByte addr v s f = raise (.invalidMemoryAccess addr .write) s := by
  simp [writeByte, h]

theorem readR8_some {z : R8} {s : State} {f : Byte → Out} {v : Byte} (h : s.r8 z = some v) :
    readR8 z s f = f v := by simp [readR8, h]

theorem readR8_none {z : R8} {s : State} {f : Byte → Out} (h : s.r8 z = none) :
    readR8 z s f = raise (.invalidMemoryAccess s.hl .read) s := by simp [readR8, h]

theorem writeR8_some {z : R8} {v : Byte} {s t : State} {f : State → Out} (h : s.setR8 z v = some t) :
    writeR8 z v s f = f t := by simp [writeR8, h]

theorem writeR8_none {z : R8} {v : Byte} {s : State} {f : State → Out} (h : s.setR8 z v = none) :
    writeR8 z v s f = raise (.invalidMemoryAccess s.hl .write) s := by simp [writeR8, h]

/-- Whether an address is mapped depends on the overlay flag alone. -/
theorem State.peek_isSome_congr {s t : State} {addr : Word} (h : s.bootActive = t.bootActive) :
    (s.peek addr).isSome = (t.peek addr).isSome := by
  unfold State.peek
  rw [h]
  split <;> rfl

/-! ## Following a property through an operation -/

/-- `t` differs from `s` in nothing but general registers, SP, pc, flags, `notTaken`, `halted` and `ime`. -/
structure RegsOnly (s t : State) : Prop where
  mem : t.mem = s.mem
  display : t.display = s.display
  clkCoarse : t.clkCoarse = s.clkCoarse
  clkFine : t.clkFine = s.clkFine
  fault : t.fault = s.fault
  bootActive : t.bootActive = s.bootActive
  events : t.events = s.events

/-- A property of states that changes of registers and writes of bytes keep: all a meaning can do. -/
structure Closed (P : State → Prop) : Prop where
  regs : ∀ {s t : State}, P s → RegsOnly s t → P t
  poke : ∀ {s t : State} {addr : Word} {v : Byte}, P s → s.poke addr v = some t → P t

/-- The answer's state has the property: the next state, or the stopped one before its fault status was written. Nothing is
refused. -/
def Answers (P : State → Prop) : Out → Prop
  | .next t => P t
  | .fault (.fatal c u) => ∃ v, P v ∧ u = { v with fault := some c }
  | .refused _ => False

variable {P : State → Prop} {s : State}

theorem Closed.answers_raise (c : FatalCondition) (hs : P s) : Answers P (raise c s) := ⟨s, hs, rfl⟩

theorem Closed.answers_readByte {k : AccessKind} {addr : Word} {f : Byte → Out} (hs : P s)
    (hf : ∀ v, Answers P (f v)) : Answers P (readByte k addr s f) := by
  unfold readByte
  split
  · exact hf _
  · exact Closed.answers_raise _ hs

theorem Closed.answers_writeByte (hP : Closed P) {addr : Word} {v : Byte} {f : State → Out} (hs : P s)
    (hf : ∀ t, P t → Answers P (f t)) : Answers P (writeByte addr v s f) := by
  unfold writeByte
  split
  · exact hf _ (hP.poke hs ‹_›)
  · exact Closed.answers_raise _ hs

theorem Closed.answers_readR8 {z : R8} {f : Byte → Out} (hs : P s) (hf : ∀ v, Answers P (f v)) :
    Answers P (readR8 z s f) := by
  unfold readR8
  split
  · exact hf _
  · exact Closed.answers_raise _ hs

theorem Closed.setR8 (hP : Closed P) {z : R8} {v : Byte} {t : State} (hs : P s) (h : s.setR8 z v = some t) : P t := by
  obtain ⟨_, hpoke⟩ | ⟨_, ht⟩ := State.setR8_cases h
  · exact hP.poke hs hpoke
  · rw [ht]
    exact hP.regs hs ⟨rfl, rfl, rfl, rfl, rfl, rfl, rfl⟩

theorem Closed.answers_writeR8 (hP : Closed P) {z : R8} {v : Byte} {f : State → Out} (hs : P s)
    (hf : ∀ t, P t → Answers P (f t)) : Answers P (writeR8 z v s f) := by
  unfold writeR8
  split
  · exact hf _ (hP.setR8 hs ‹_›)
  · exact Closed.answers_raise _ hs

theorem Closed.answers_modifyR8 (hP : Closed P) {g : Byte → Flags → Byte × Flags} {z : R8} (hs : P s) :
    Answers P (modifyR8 g z s) :=
  Closed.answers_readR8 hs fun _ =>
    hP.answers_writeR8 (hP.regs hs ⟨rfl, rfl, rfl, rfl, rfl, rfl, rfl⟩) fun _ ht => ht

theorem Closed.answers_writeWord (hP : Closed P) {addr v : Word} {f : State → Out} (hs : P s)
    (hf : ∀ t, P t → Answers P (f t)) : Answers P (writeWord addr v s f) :=
  hP.answers_writeByte hs fun _ ht => hP.answers_writeByte ht hf

theorem Closed.answers_push (hP : Closed P) {v : Word} {f : State → Out} (hs : P s)
    (hf : ∀ t, P t → Answers P (f t)) : Answers P (push v s f) :=
  hP.answers_writeByte (hP.regs hs ⟨rfl, rfl, rfl, rfl, rfl, rfl, rfl⟩) fun _ ht =>
    hP.answers_writeByte (hP.regs ht ⟨rfl, rfl, rfl, rfl, rfl, rfl, rfl⟩) hf

theorem Closed.answers_pop (hP : Closed P) {f : Word → State → Out} (hs : P s)
    (hf : ∀ w t, P t → Answers P (f w t)) : Answers P (pop s f) :=
  Closed.answers_readByte hs fun _ =>
    Closed.answers_readByte (hP.regs hs ⟨rfl, rfl, rfl, rfl, rfl, rfl, rfl⟩) fun _ =>
      hf _ _ (hP.regs hs ⟨rfl, rfl, rfl, rfl, rfl, rfl, rfl⟩)

/-! ## The families' shared forms -/

theorem Closed.answers_loadR8 (hP : Closed P) {dst src : R8} (hs : P s) : Answers P (loadR8 dst src s) :=
  Closed.answers_readR8 hs fun _ => hP.answers_writeR8 hs fun _ ht => ht

theorem Closed.answers_loadImm (hP : Closed P) {dst : R8} {v : Byte} (hs : P s) : Answers P (loadImm dst v s) :=
  hP.answers_writeR8 hs fun _ ht => ht

theorem Closed.answers_loadA (hP : Closed P) {addr : Word} (hs : P s) : Answers P (loadA addr s) :=
  Closed.answers_readByte hs fun _ => hP.regs hs ⟨rfl, rfl, rfl, rfl, rfl, rfl, rfl⟩

theorem Closed.answers_storeA (hP : Closed P) {addr : Word} (hs : P s) : Answers P (storeA addr s) :=
  hP.answers_writeByte hs fun _ ht => ht

theorem Closed.answers_loadAThen (hP : Closed P) {hl : Word} (hs : P s) : Answers P (loadAThen hl s) :=
  Closed.answers_readByte hs fun _ => hP.regs hs ⟨rfl, rfl, rfl, rfl, rfl, rfl, rfl⟩

theorem Closed.answers_storeAThen (hP : Closed P) {hl : Word} (hs : P s) : Answers P (storeAThen hl s) :=
  hP.answers_writeByte hs fun _ ht => hP.regs ht ⟨rfl, rfl, rfl, rfl, rfl, rfl, rfl⟩

theorem State.regsOnly_setRp (p : Rp) (v : Word) : RegsOnly s (s.setRp p v) := by
  cases p <;> exact ⟨rfl, rfl, rfl, rfl, rfl, rfl, rfl⟩

theorem State.regsOnly_setRp2 (p : Rp2) (v : Word) : RegsOnly s (s.setRp2 p v) := by
  cases p <;> exact ⟨rfl, rfl, rfl, rfl, rfl, rfl, rfl⟩

theorem Closed.answers_pushPair (hP : Closed P) {p : Rp2} (hs : P s) : Answers P (pushPair p s) :=
  hP.answers_push hs fun _ ht => ht

theorem Closed.answers_popPair (hP : Closed P) {p : Rp2} (hs : P s) : Answers P (popPair p s) :=
  hP.answers_pop hs fun v _ ht => hP.regs ht (State.regsOnly_setRp2 p v)

theorem Closed.answers_aluR8 (hP : Closed P) {op : AluOp} {z : R8} (hs : P s) : Answers P (aluR8 op z s) :=
  Closed.answers_readR8 hs fun _ => hP.regs hs ⟨rfl, rfl, rfl, rfl, rfl, rfl, rfl⟩

theorem Closed.answers_aluImm (hP : Closed P) {op : AluOp} {v : Byte} (hs : P s) : Answers P (aluImm op v s) :=
  hP.regs hs ⟨rfl, rfl, rfl, rfl, rfl, rfl, rfl⟩

theorem Closed.answers_incR8 (hP : Closed P) {z : R8} (hs : P s) : Answers P (incR8 z s) := hP.answers_modifyR8 hs

theorem Closed.answers_decR8 (hP : Closed P) {z : R8} (hs : P s) : Answers P (decR8 z s) := hP.answers_modifyR8 hs

theorem Closed.answers_rotR8 (hP : Closed P) {op : RotOp} {z : R8} (hs : P s) : Answers P (rotR8 op z s) :=
  hP.answers_modifyR8 hs

theorem Closed.answers_clearBitR8 (hP : Closed P) {n : Nat} {z : R8} (hs : P s) : Answers P (clearBitR8 n z s) :=
  hP.answers_modifyR8 hs

theorem Closed.answers_assertBitR8 (hP : Closed P) {n : Nat} {z : R8} (hs : P s) : Answers P (assertBitR8 n z s) :=
  hP.answers_modifyR8 hs

theorem Closed.answers_testBitR8 (hP : Closed P) {n : Nat} {z : R8} (hs : P s) : Answers P (testBitR8 n z s) :=
  Closed.answers_readR8 hs fun _ => hP.regs hs ⟨rfl, rfl, rfl, rfl, rfl, rfl, rfl⟩

theorem Closed.answers_onCond (hP : Closed P) {i : Cond} {f : State → Out} (hs : P s) (hf : Answers P (f s)) :
    Answers P (onCond i f s) := by
  unfold onCond
  split
  · exact hf
  · exact hP.regs hs ⟨rfl, rfl, rfl, rfl, rfl, rfl, rfl⟩

theorem Closed.answers_jumpRelative (hP : Closed P) {e : Byte} (hs : P s) : Answers P (jumpRelative e s) :=
  hP.regs hs ⟨rfl, rfl, rfl, rfl, rfl, rfl, rfl⟩

theorem Closed.answers_callTo (hP : Closed P) {t : Word} (hs : P s) : Answers P (callTo t s) :=
  hP.answers_push hs fun _ ht => hP.regs ht ⟨rfl, rfl, rfl, rfl, rfl, rfl, rfl⟩

theorem Closed.answers_returnFrom (hP : Closed P) (hs : P s) : Answers P (returnFrom s) :=
  hP.answers_pop hs fun _ _ ht => hP.regs ht ⟨rfl, rfl, rfl, rfl, rfl, rfl, rfl⟩

theorem Closed.answers_reti (hP : Closed P) (hs : P s) : Answers P (execReti s) :=
  hP.answers_pop hs fun _ _ ht => hP.regs ht ⟨rfl, rfl, rfl, rfl, rfl, rfl, rfl⟩

end Sys2Proof.Machine
end

