-- ==== Sys2Proof/Laws/Engine.lean ====
section
/-! SUPPORT. The pieces of a step, by equations: fetching, the entry lookup, settling, and the two ways a step begins. -/

namespace Sys2Proof.Machine

/-- A read depends on memory, the display and the overlay flag alone. -/
theorem State.peek_congr {s t : State} (hm : s.mem = t.mem) (hd : s.display = t.display)
    (hb : s.bootActive = t.bootActive) (addr : Word) : s.peek addr = t.peek addr := by
  unfold State.peek
  rw [hm, hd, hb]

@[simp] theorem State.peek_setPc (s : State) (v addr : Word) : { s with pc := v }.peek addr = s.peek addr := rfl

@[simp] theorem State.peek_setSp (s : State) (v addr : Word) : { s with sp := v }.peek addr = s.peek addr := rfl

theorem fetch8_some {s : State} {f : Byte → State → Out} {v : Byte} (h : s.peek s.pc = some v) :
    fetch8 s f = f v { s with pc := s.pc + 1 } := readByte_some h

theorem fetch8_none {s : State} {f : Byte → State → Out} (h : s.peek s.pc = none) :
    fetch8 s f = raise (.invalidMemoryAccess s.pc .fetch) s := readByte_none h

theorem enter_present {cfg : Config} {escaped : Bool} {key : Byte} {opAddr instrAddr : Word} {s : State}
    {handler : State → Out} (h : cfg.impl escaped key = true) :
    enter cfg escaped key opAddr instrAddr s handler = settle (cfg.cost escaped key) (handler s) := by
  simp [enter, h]

theorem enter_absent {cfg : Config} {escaped : Bool} {key : Byte} {opAddr instrAddr : Word} {s : State}
    {handler : State → Out} (h : cfg.impl escaped key = false) :
    enter cfg escaped key opAddr instrAddr s handler = raise (.unimplementedInstruction escaped key opAddr instrAddr) s := by
  simp [enter, h]

@[simp] theorem settle_next (p : CostPair) (s : State) : settle p (.next s) = .next (tick (selectCost p s) s) := rfl

@[simp] theorem settle_fault (p : CostPair) (f : Fault) : settle p (.fault f) = .fault f := rfl

@[simp] theorem settle_raise (p : CostPair) (c : FatalCondition) (s : State) : settle p (raise c s) = raise c s := rfl

theorem stepWith_running {cfg : Config} {s : State} (hf : s.fault = none) (hh : s.halted = false) :
    stepWith cfg s = runInstruction cfg (bootUnmapCheck s) := by
  simp [stepWith, hf, hh]

theorem stepWith_halted {cfg : Config} {s : State} (hf : s.fault = none) (hh : s.halted = true) :
    stepWith cfg s = .next (haltedStep (bootUnmapCheck s)) := by
  simp [stepWith, hf, hh]

theorem stepWith_stopped {cfg : Config} {s : State} {c : FatalCondition} (hf : s.fault = some c) :
    stepWith cfg s = .fault (.fatal c s) := by
  simp [stepWith, hf]

/-- The escape is 0xCB and no other opcode (spec/30_encoding.md R98). -/
theorem primary_escape_iff (op : Byte) : (match primary op with | .escape => true | _ => false) = decide (op = 0xCB#8) := by
  revert op
  decide

end Sys2Proof.Machine
end

