-- ==== Sys2Proof/Laws/Exec.lean ====
section
/-! SUPPORT. What `exec` can do, for every instruction at once: registers change and bytes are written, or the instruction stops
with a fatal condition; nothing is refused. -/

namespace Sys2Proof.Machine

/-- Every closed property passes through every instruction. -/
theorem Closed.answers_exec {P : State → Prop} (hP : Closed P) (i : Instr) {s : State} (hs : P s) :
    Answers P (exec i s) := by
  unfold exec
  cases i with
  | nop => exact hs
  | ldBcD16 _ | incBc | decBc | ldDeD16 _ | incDe | decDe | ldHlD16 _ | incHl | decHl | ldSpD16 _ | incSp | decSp =>
    exact hP.regs hs (State.regsOnly_setRp _ _)
  | ldAtBcA | ldAtDeA | ldhAtA8A _ | ldAtCA | ldAtA16A _ => exact hP.answers_storeA hs
  | incB | incC | incD | incE | incH | incL | incAtHl | incA => exact hP.answers_incR8 hs
  | decB | decC | decD | decE | decH | decL | decAtHl | decA => exact hP.answers_decR8 hs
  | ldBD8 _ | ldCD8 _ | ldDD8 _ | ldED8 _ | ldHD8 _ | ldLD8 _ | ldAtHlD8 _ | ldAD8 _ => exact hP.answers_loadImm hs
  | rlca | addHlBc | rrca | stop _ | rla | addHlDe | rra | daa | addHlHl | cpl | scf | addHlSp | ccf | halt
  | jpA16 _ | addSpE8 _ | jpHl | di | ldHlSpE8 _ | ldSpHl | ei => exact hP.regs hs ⟨rfl, rfl, rfl, rfl, rfl, rfl, rfl⟩
  | ldAtA16Sp _ => exact hP.answers_writeWord hs fun _ ht => ht
  | ldAAtBc | ldAAtDe | ldhAAtA8 _ | ldAAtC | ldAAtA16 _ => exact hP.answers_loadA hs
  | jrE8 _ => exact hP.answers_jumpRelative hs
  | jrNzE8 _ | jrZE8 _ | jrNcE8 _ | jrCE8 _ => exact hP.answers_onCond hs (hP.answers_jumpRelative hs)
  | ldAtHlIncA | ldAtHlDecA => exact hP.answers_storeAThen hs
  | ldAAtHlInc | ldAAtHlDec => exact hP.answers_loadAThen hs
  | ldBB | ldBC | ldBD | ldBE | ldBH | ldBL | ldBAtHl | ldBA | ldCB | ldCC | ldCD | ldCE | ldCH | ldCL | ldCAtHl
  | ldCA | ldDB | ldDC | ldDD | ldDE | ldDH | ldDL | ldDAtHl | ldDA | ldEB | ldEC | ldED | ldEE | ldEH | ldEL
  | ldEAtHl | ldEA | ldHB | ldHC | ldHD | ldHE | ldHH | ldHL | ldHAtHl | ldHA | ldLB | ldLC | ldLD | ldLE | ldLH
  | ldLL | ldLAtHl | ldLA | ldAtHlB | ldAtHlC | ldAtHlD | ldAtHlE | ldAtHlH | ldAtHlL | ldAtHlA | ldAB | ldAC
  | ldAD | ldAE | ldAH | ldAL | ldAAtHl | ldAA => exact hP.answers_loadR8 hs
  | addAB | addAC | addAD | addAE | addAH | addAL | addAAtHl | addAA | adcAB | adcAC | adcAD | adcAE | adcAH
  | adcAL | adcAAtHl | adcAA | subB | subC | subD | subE | subH | subL | subAtHl | subA | sbcAB | sbcAC | sbcAD
  | sbcAE | sbcAH | sbcAL | sbcAAtHl | sbcAA | andB | andC | andD | andE | andH | andL | andAtHl | andA | xorB
  | xorC | xorD | xorE | xorH | xorL | xorAtHl | xorA | orB | orC | orD | orE | orH | orL | orAtHl | orA | cpB
  | cpC | cpD | cpE | cpH | cpL | cpAtHl | cpA => exact hP.answers_aluR8 hs
  | retNz | retZ | retNc | retC => exact hP.answers_onCond hs (hP.answers_returnFrom hs)
  | popBc | popDe | popHl | popAf => exact hP.answers_popPair hs
  | jpNzA16 _ | jpZA16 _ | jpNcA16 _ | jpCA16 _ =>
    exact hP.answers_onCond hs (hP.regs hs ⟨rfl, rfl, rfl, rfl, rfl, rfl, rfl⟩)
  | callNzA16 _ | callZA16 _ | callNcA16 _ | callCA16 _ => exact hP.answers_onCond hs (hP.answers_callTo hs)
  | pushBc | pushDe | pushHl | pushAf => exact hP.answers_pushPair hs
  | addAD8 _ | adcAD8 _ | subD8 _ | sbcAD8 _ | andD8 _ | xorD8 _ | orD8 _ | cpD8 _ => exact hP.answers_aluImm hs
  | rst00 | callA16 _ | rst08 | rst10 | rst18 | rst20 | rst28 | rst30 | rst38 => exact hP.answers_callTo hs
  | ret => exact hP.answers_returnFrom hs
  | illegalD3 | illegalDB | illegalDD | illegalE3 | illegalE4 | illegalEB | illegalEC | illegalED | illegalF4
  | illegalFC | illegalFD => exact Closed.answers_raise _ hs
  | reti => exact hP.answers_reti hs
  | cbRlcB | cbRlcC | cbRlcD | cbRlcE | cbRlcH | cbRlcL | cbRlcAtHl | cbRlcA | cbRrcB | cbRrcC | cbRrcD | cbRrcE
  | cbRrcH | cbRrcL | cbRrcAtHl | cbRrcA | cbRlB | cbRlC | cbRlD | cbRlE | cbRlH | cbRlL | cbRlAtHl | cbRlA | cbRrB
  | cbRrC | cbRrD | cbRrE | cbRrH | cbRrL | cbRrAtHl | cbRrA | cbSlaB | cbSlaC | cbSlaD | cbSlaE | cbSlaH | cbSlaL
  | cbSlaAtHl | cbSlaA | cbSraB | cbSraC | cbSraD | cbSraE | cbSraH | cbSraL | cbSraAtHl | cbSraA | cbSwapB
  | cbSwapC | cbSwapD | cbSwapE | cbSwapH | cbSwapL | cbSwapAtHl | cbSwapA | cbSrlB | cbSrlC | cbSrlD | cbSrlE
  | cbSrlH | cbSrlL | cbSrlAtHl | cbSrlA => exact hP.answers_rotR8 hs
  | bit0B | bit0C | bit0D | bit0E | bit0H | bit0L | bit0AtHl | bit0A | bit1B | bit1C | bit1D | bit1E | bit1H
  | bit1L | bit1AtHl | bit1A | bit2B | bit2C | bit2D | bit2E | bit2H | bit2L | bit2AtHl | bit2A | bit3B | bit3C
  | bit3D | bit3E | bit3H | bit3L | bit3AtHl | bit3A | bit4B | bit4C | bit4D | bit4E | bit4H | bit4L | bit4AtHl
  | bit4A | bit5B | bit5C | bit5D | bit5E | bit5H | bit5L | bit5AtHl | bit5A | bit6B | bit6C | bit6D | bit6E
  | bit6H | bit6L | bit6AtHl | bit6A | bit7B | bit7C | bit7D | bit7E | bit7H | bit7L | bit7AtHl | bit7A =>
    exact hP.answers_testBitR8 hs
  | res0B | res0C | res0D | res0E | res0H | res0L | res0AtHl | res0A | res1B | res1C | res1D | res1E | res1H
  | res1L | res1AtHl | res1A | res2B | res2C | res2D | res2E | res2H | res2L | res2AtHl | res2A | res3B | res3C
  | res3D | res3E | res3H | res3L | res3AtHl | res3A | res4B | res4C | res4D | res4E | res4H | res4L | res4AtHl
  | res4A | res5B | res5C | res5D | res5E | res5H | res5L | res5AtHl | res5A | res6B | res6C | res6D | res6E
  | res6H | res6L | res6AtHl | res6A | res7B | res7C | res7D | res7E | res7H | res7L | res7AtHl | res7A =>
    exact hP.answers_clearBitR8 hs
  | set0B | set0C | set0D | set0E | set0H | set0L | set0AtHl | set0A | set1B | set1C | set1D | set1E | set1H
  | set1L | set1AtHl | set1A | set2B | set2C | set2D | set2E | set2H | set2L | set2AtHl | set2A | set3B | set3C
  | set3D | set3E | set3H | set3L | set3AtHl | set3A | set4B | set4C | set4D | set4E | set4H | set4L | set4AtHl
  | set4A | set5B | set5C | set5D | set5E | set5H | set5L | set5AtHl | set5A | set6B | set6C | set6D | set6E
  | set6H | set6L | set6AtHl | set6A | set7B | set7C | set7D | set7E | set7H | set7L | set7AtHl | set7A =>
    exact hP.answers_assertBitR8 hs

/-- What a next state, a fault and a refusal of `exec` say. -/
theorem Closed.exec_next {P : State → Prop} (hP : Closed P) {i : Instr} {s t : State} (hs : P s)
    (h : exec i s = .next t) : P t := by
  simpa [h, Answers] using hP.answers_exec i hs

theorem Closed.exec_fault {P : State → Prop} (hP : Closed P) {i : Instr} {s : State} {r : Fault} (hs : P s)
    (h : exec i s = .fault r) : ∃ c u, P u ∧ r = .fatal c { u with fault := some c } := by
  have := hP.answers_exec i hs
  rw [h] at this
  obtain ⟨c, u⟩ := r
  obtain ⟨v, hv, rfl⟩ := this
  exact ⟨c, v, hv, rfl⟩

theorem exec_ne_refused (i : Instr) (s : State) (r : Refusal) : exec i s ≠ .refused r := by
  intro h
  have := Closed.answers_exec (P := fun _ => True) ⟨fun _ _ => trivial, fun _ _ => trivial⟩ i (s := s) trivial
  rw [h] at this
  exact this

/-! ## Properties that are closed -/

theorem closed_memory_wf : Closed fun t => t.mem.wf = true where
  regs := fun h hr => hr.mem.symm ▸ h
  poke := fun h hp => State.poke_wf hp h

/-- No meaning touches the clocks, the fault status, the overlay flag, the events or the display's timing and picture. -/
theorem closed_timing (s : State) : Closed fun t =>
    t.clkCoarse = s.clkCoarse ∧ t.clkFine = s.clkFine ∧ t.fault = s.fault ∧ t.bootActive = s.bootActive ∧
    t.events = s.events ∧ t.display.mode = s.display.mode ∧ t.display.scanline = s.display.scanline ∧
    t.display.modeClock = s.display.modeClock ∧ t.display.fb = s.display.fb ∧ t.display.frames = s.display.frames where
  regs := fun h hr => by simpa [hr.mem, hr.display, hr.clkCoarse, hr.clkFine, hr.fault, hr.bootActive, hr.events] using h
  poke := fun {u t _ _} h hp => by
    obtain ⟨r, i, _, _, rfl⟩ | ⟨r, _, rfl⟩ := State.poke_cases hp
    · exact h
    · cases r <;> exact h

end Sys2Proof.Machine
end

