-- ==== Sys2Proof/Laws/Reset.lean ====
section
/-! SUPPORT. Memory's canonical form at reset, through loading and through placing a program. -/

namespace Sys2Proof.Machine

/-- Memory after reset is in canonical form. -/
theorem State.reset_memory_wf : State.reset.mem.wf = true := rfl

/-- Loading an image into a region's keys keeps the canonical form. -/
theorem Memory.wf_load {m : Memory} {key : Nat} {image : List Byte} (h : m.wf = true)
    (hkey : ∀ k, k < image.length → Memory.isKey (key + k) = true) : (m.load key image).wf = true := by
  induction image generalizing m key with
  | nil => exact h
  | cons v image ih =>
    refine ih (Memory.wf_write h (by simpa using hkey 0 (by simp))) fun k hk => ?_
    have := hkey (k + 1) (by simpa using hk)
    rwa [show key + (k + 1) = key + 1 + k by omega] at this

/-- Loading leaves every key outside the image alone. -/
theorem Memory.read_load_of_outside {m : Memory} {key other : Nat} {image : List Byte}
    (h : other < key ∨ key + image.length ≤ other) : (m.load key image).read other = m.read other := by
  induction image generalizing m key with
  | nil => rfl
  | cons v image ih =>
    simp only [List.length_cons] at h
    rw [Memory.load, ih (by omega), Memory.read_write_of_ne (by omega)]

/-- Loading puts the image's bytes at consecutive keys. -/
theorem Memory.read_load {m : Memory} {key k : Nat} {image : List Byte} (h : m.wf = true)
    (hkey : ∀ k, k < image.length → Memory.isKey (key + k) = true) (hk : k < image.length) :
    (m.load key image).read (key + k) = image[k] := by
  induction image generalizing m key k with
  | nil => exact absurd hk (by simp)
  | cons v image ih =>
    have hkey0 : Memory.isKey key = true := by simpa using hkey 0 (by simp)
    cases k with
    | zero =>
      rw [Memory.load, Memory.read_load_of_outside (by omega)]
      exact Memory.read_write_self h
    | succ k =>
      have hk' : k < image.length := by simpa using hk
      rw [Memory.load, show key + (k + 1) = key + 1 + k by omega, ih (Memory.wf_write h hkey0) _ hk', List.getElem_cons_succ]
      intro n hn
      have := hkey (n + 1) (by simpa using hn)
      rwa [show key + (n + 1) = key + 1 + n by omega] at this

@[simp] theorem State.afterReset_mem (r : InitRegs) (mem : Memory) (overlay : Bool) :
    (State.afterReset r mem overlay).mem = mem := rfl

@[simp] theorem State.afterReset_bootActive (r : InitRegs) (mem : Memory) (overlay : Bool) :
    (State.afterReset r mem overlay).bootActive = overlay := rfl

@[simp] theorem State.afterReset_display (r : InitRegs) (mem : Memory) (overlay : Bool) :
    (State.afterReset r mem overlay).display = .reset := rfl

/-- Placing bytes as a loader does keeps the canonical form. -/
theorem State.placeBytes_wf {s : State} {addr : Word} {bytes : List Byte} (h : s.mem.wf = true) :
    (s.placeBytes addr bytes).mem.wf = true := by
  induction bytes generalizing s addr with
  | nil => exact h
  | cons v bytes ih =>
    refine ih ?_
    cases hp : s.poke addr v with
    | none => exact h
    | some t => exact State.poke_wf hp h

/-- A state in canonical form stays in it when an instruction is placed where it fetches. -/
theorem State.withFetchWord_wf {s : State} {nbits w : Nat} (h : s.mem.wf = true) :
    (s.withFetchWord nbits w).mem.wf = true := by
  refine State.placeBytes_wf ?_
  unfold bootUnmapCheck
  split <;> exact h

end Sys2Proof.Machine
end

