-- ==== Sys2Proof/Laws/Selectors.lean ====
section
/-! SUPPORT. `exec` of a block of opcodes, by the block's fields (spec/30_encoding.md R90 to R94): each is the family's one shared
meaning. -/

namespace Sys2Proof.Machine

variable (s : State)

theorem exec_ld {dst src : R8} (h : ¬(dst = .atHl ∧ src = .atHl)) : exec (.ld dst src) s = loadR8 dst src s := by
  cases dst <;> cases src <;> first | rfl | exact absurd ⟨rfl, rfl⟩ h

theorem exec_ldImm (dst : R8) (v : Byte) : exec (.ldImm dst v) s = loadImm dst v s := by cases dst <;> rfl

theorem exec_alu (op : AluOp) (z : R8) : exec (.alu op z) s = aluR8 op z s := by cases op <;> cases z <;> rfl

theorem exec_aluImm (op : AluOp) (v : Byte) : exec (.aluImm op v) s = aluImm op v s := by cases op <;> rfl

theorem exec_inc (z : R8) : exec (.inc z) s = incR8 z s := by cases z <;> rfl

theorem exec_dec (z : R8) : exec (.dec z) s = decR8 z s := by cases z <;> rfl

theorem exec_ldPair (p : Rp) (v : Word) : exec (.ldPair p v) s = .next (s.setRp p v) := by cases p <;> rfl

theorem exec_addHl (p : Rp) : exec (.addHl p) s = addHl p s := by cases p <;> rfl

theorem exec_incPair (p : Rp) : exec (.incPair p) s = .next (s.setRp p (s.rp p + 1)) := by cases p <;> rfl

theorem exec_decPair (p : Rp) : exec (.decPair p) s = .next (s.setRp p (s.rp p - 1)) := by cases p <;> rfl

theorem exec_jr (i : Cond) (e : Byte) : exec (.jr i e) s = onCond i (jumpRelative e) s := by cases i <;> rfl

theorem exec_jp (i : Cond) (t : Word) :
    exec (.jp i t) s = onCond i (fun s => .next { s with pc := t }) s := by cases i <;> rfl

theorem exec_call (i : Cond) (t : Word) : exec (.call i t) s = onCond i (callTo t) s := by cases i <;> rfl

theorem exec_retIf (i : Cond) : exec (.retIf i) s = onCond i returnFrom s := by cases i <;> rfl

theorem exec_push (p : Rp2) : exec (.push p) s = pushPair p s := by cases p <;> rfl

theorem exec_pop (p : Rp2) : exec (.pop p) s = popPair p s := by cases p <;> rfl

/-- Every value of a 3-bit field. -/
theorem forall_field3 {p : BitVec 3 → Prop} (h0 : p 0#3) (h1 : p 1#3) (h2 : p 2#3) (h3 : p 3#3) (h4 : p 4#3)
    (h5 : p 5#3) (h6 : p 6#3) (h7 : p 7#3) (y : BitVec 3) : p y := by
  have : y = 0#3 ∨ y = 1#3 ∨ y = 2#3 ∨ y = 3#3 ∨ y = 4#3 ∨ y = 5#3 ∨ y = 6#3 ∨ y = 7#3 := by
    revert y; decide
  rcases this with rfl | rfl | rfl | rfl | rfl | rfl | rfl | rfl <;> assumption

theorem exec_rst (y : BitVec 3) : exec (.rst y) s = callTo (BitVec.ofNat 16 (8 * y.toNat)) s := by
  revert y
  apply forall_field3 <;> rfl

theorem exec_rot (op : RotOp) (z : R8) : exec (.rot op z) s = rotR8 op z s := by cases op <;> cases z <;> rfl

theorem exec_testBit (y : BitVec 3) (z : R8) : exec (.testBit y z) s = testBitR8 y.toNat z s := by
  revert y
  apply forall_field3 <;> cases z <;> rfl

theorem exec_resetBit (y : BitVec 3) (z : R8) : exec (.resetBit y z) s = clearBitR8 y.toNat z s := by
  revert y
  apply forall_field3 <;> cases z <;> rfl

theorem exec_setBit (y : BitVec 3) (z : R8) : exec (.setBit y z) s = assertBitR8 y.toNat z s := by
  revert y
  apply forall_field3 <;> cases z <;> rfl

end Sys2Proof.Machine
end

