-- ==== Sys2Proof/Tests/Slice0.lean ====
section
/-! SUPPORT. The model's own tests: the smoke test of WellFormed, the decoding of every opcode from its word, the vectors of
spec/95_test_vectors.md (each theorem names its vector; the expected values are the table's), and a witness of the hypotheses
of every statement that has some. -/

namespace Sys2Proof.Tests

open Sys2Proof Sys2Proof.Machine

/-! ## WellFormed refuses each illegal opcode, and nothing else of its row -/

theorem test_wellFormed_refuses_illegalD3 : Instr.wellFormed .illegalD3 = false := by decide
theorem test_wellFormed_refuses_illegalDB : Instr.wellFormed .illegalDB = false := by decide
theorem test_wellFormed_refuses_illegalDD : Instr.wellFormed .illegalDD = false := by decide
theorem test_wellFormed_refuses_illegalE3 : Instr.wellFormed .illegalE3 = false := by decide
theorem test_wellFormed_refuses_illegalE4 : Instr.wellFormed .illegalE4 = false := by decide
theorem test_wellFormed_refuses_illegalEB : Instr.wellFormed .illegalEB = false := by decide
theorem test_wellFormed_refuses_illegalEC : Instr.wellFormed .illegalEC = false := by decide
theorem test_wellFormed_refuses_illegalED : Instr.wellFormed .illegalED = false := by decide
theorem test_wellFormed_refuses_illegalF4 : Instr.wellFormed .illegalF4 = false := by decide
theorem test_wellFormed_refuses_illegalFC : Instr.wellFormed .illegalFC = false := by decide
theorem test_wellFormed_refuses_illegalFD : Instr.wellFormed .illegalFD = false := by decide

theorem test_wellFormed_accepts_neighbours : Instr.wellFormed (.callNcA16 0x1234#16) = true ∧ Instr.wellFormed .ei = true ∧
    Instr.wellFormed .bit7A = true := by decide

/-! ## Decoding: the words of spec/opcode_table.json, sixteen a theorem, with an immediate of 0x34 or 0x1234 -/

theorem test_decode_0x :
    decode [0x00#8] = .ok (.nop, []) ∧
    decode [0x01#8, 0x34#8, 0x12#8] = .ok (.ldBcD16 0x1234#16, []) ∧
    decode [0x02#8] = .ok (.ldAtBcA, []) ∧
    decode [0x03#8] = .ok (.incBc, []) ∧
    decode [0x04#8] = .ok (.incB, []) ∧
    decode [0x05#8] = .ok (.decB, []) ∧
    decode [0x06#8, 0x34#8] = .ok (.ldBD8 0x34#8, []) ∧
    decode [0x07#8] = .ok (.rlca, []) ∧
    decode [0x08#8, 0x34#8, 0x12#8] = .ok (.ldAtA16Sp 0x1234#16, []) ∧
    decode [0x09#8] = .ok (.addHlBc, []) ∧
    decode [0x0A#8] = .ok (.ldAAtBc, []) ∧
    decode [0x0B#8] = .ok (.decBc, []) ∧
    decode [0x0C#8] = .ok (.incC, []) ∧
    decode [0x0D#8] = .ok (.decC, []) ∧
    decode [0x0E#8, 0x34#8] = .ok (.ldCD8 0x34#8, []) ∧
    decode [0x0F#8] = .ok (.rrca, []) := by
  refine ⟨?_, ?_, ?_, ?_, ?_, ?_, ?_, ?_, ?_, ?_, ?_, ?_, ?_, ?_, ?_, ?_⟩ <;> rfl

theorem test_decode_1x :
    decode [0x10#8, 0x34#8] = .ok (.stop 0x34#8, []) ∧
    decode [0x11#8, 0x34#8, 0x12#8] = .ok (.ldDeD16 0x1234#16, []) ∧
    decode [0x12#8] = .ok (.ldAtDeA, []) ∧
    decode [0x13#8] = .ok (.incDe, []) ∧
    decode [0x14#8] = .ok (.incD, []) ∧
    decode [0x15#8] = .ok (.decD, []) ∧
    decode [0x16#8, 0x34#8] = .ok (.ldDD8 0x34#8, []) ∧
    decode [0x17#8] = .ok (.rla, []) ∧
    decode [0x18#8, 0x34#8] = .ok (.jrE8 0x34#8, []) ∧
    decode [0x19#8] = .ok (.addHlDe, []) ∧
    decode [0x1A#8] = .ok (.ldAAtDe, []) ∧
    decode [0x1B#8] = .ok (.decDe, []) ∧
    decode [0x1C#8] = .ok (.incE, []) ∧
    decode [0x1D#8] = .ok (.decE, []) ∧
    decode [0x1E#8, 0x34#8] = .ok (.ldED8 0x34#8, []) ∧
    decode [0x1F#8] = .ok (.rra, []) := by
  refine ⟨?_, ?_, ?_, ?_, ?_, ?_, ?_, ?_, ?_, ?_, ?_, ?_, ?_, ?_, ?_, ?_⟩ <;> rfl

theorem test_decode_2x :
    decode [0x20#8, 0x34#8] = .ok (.jrNzE8 0x34#8, []) ∧
    decode [0x21#8, 0x34#8, 0x12#8] = .ok (.ldHlD16 0x1234#16, []) ∧
    decode [0x22#8] = .ok (.ldAtHlIncA, []) ∧
    decode [0x23#8] = .ok (.incHl, []) ∧
    decode [0x24#8] = .ok (.incH, []) ∧
    decode [0x25#8] = .ok (.decH, []) ∧
    decode [0x26#8, 0x34#8] = .ok (.ldHD8 0x34#8, []) ∧
    decode [0x27#8] = .ok (.daa, []) ∧
    decode [0x28#8, 0x34#8] = .ok (.jrZE8 0x34#8, []) ∧
    decode [0x29#8] = .ok (.addHlHl, []) ∧
    decode [0x2A#8] = .ok (.ldAAtHlInc, []) ∧
    decode [0x2B#8] = .ok (.decHl, []) ∧
    decode [0x2C#8] = .ok (.incL, []) ∧
    decode [0x2D#8] = .ok (.decL, []) ∧
    decode [0x2E#8, 0x34#8] = .ok (.ldLD8 0x34#8, []) ∧
    decode [0x2F#8] = .ok (.cpl, []) := by
  refine ⟨?_, ?_, ?_, ?_, ?_, ?_, ?_, ?_, ?_, ?_, ?_, ?_, ?_, ?_, ?_, ?_⟩ <;> rfl

theorem test_decode_3x :
    decode [0x30#8, 0x34#8] = .ok (.jrNcE8 0x34#8, []) ∧
    decode [0x31#8, 0x34#8, 0x12#8] = .ok (.ldSpD16 0x1234#16, []) ∧
    decode [0x32#8] = .ok (.ldAtHlDecA, []) ∧
    decode [0x33#8] = .ok (.incSp, []) ∧
    decode [0x34#8] = .ok (.incAtHl, []) ∧
    decode [0x35#8] = .ok (.decAtHl, []) ∧
    decode [0x36#8, 0x34#8] = .ok (.ldAtHlD8 0x34#8, []) ∧
    decode [0x37#8] = .ok (.scf, []) ∧
    decode [0x38#8, 0x34#8] = .ok (.jrCE8 0x34#8, []) ∧
    decode [0x39#8] = .ok (.addHlSp, []) ∧
    decode [0x3A#8] = .ok (.ldAAtHlDec, []) ∧
    decode [0x3B#8] = .ok (.decSp, []) ∧
    decode [0x3C#8] = .ok (.incA, []) ∧
    decode [0x3D#8] = .ok (.decA, []) ∧
    decode [0x3E#8, 0x34#8] = .ok (.ldAD8 0x34#8, []) ∧
    decode [0x3F#8] = .ok (.ccf, []) := by
  refine ⟨?_, ?_, ?_, ?_, ?_, ?_, ?_, ?_, ?_, ?_, ?_, ?_, ?_, ?_, ?_, ?_⟩ <;> rfl

theorem test_decode_4x :
    decode [0x40#8] = .ok (.ldBB, []) ∧
    decode [0x41#8] = .ok (.ldBC, []) ∧
    decode [0x42#8] = .ok (.ldBD, []) ∧
    decode [0x43#8] = .ok (.ldBE, []) ∧
    decode [0x44#8] = .ok (.ldBH, []) ∧
    decode [0x45#8] = .ok (.ldBL, []) ∧
    decode [0x46#8] = .ok (.ldBAtHl, []) ∧
    decode [0x47#8] = .ok (.ldBA, []) ∧
    decode [0x48#8] = .ok (.ldCB, []) ∧
    decode [0x49#8] = .ok (.ldCC, []) ∧
    decode [0x4A#8] = .ok (.ldCD, []) ∧
    decode [0x4B#8] = .ok (.ldCE, []) ∧
    decode [0x4C#8] = .ok (.ldCH, []) ∧
    decode [0x4D#8] = .ok (.ldCL, []) ∧
    decode [0x4E#8] = .ok (.ldCAtHl, []) ∧
    decode [0x4F#8] = .ok (.ldCA, []) := by
  refine ⟨?_, ?_, ?_, ?_, ?_, ?_, ?_, ?_, ?_, ?_, ?_, ?_, ?_, ?_, ?_, ?_⟩ <;> rfl

theorem test_decode_5x :
    decode [0x50#8] = .ok (.ldDB, []) ∧
    decode [0x51#8] = .ok (.ldDC, []) ∧
    decode [0x52#8] = .ok (.ldDD, []) ∧
    decode [0x53#8] = .ok (.ldDE, []) ∧
    decode [0x54#8] = .ok (.ldDH, []) ∧
    decode [0x55#8] = .ok (.ldDL, []) ∧
    decode [0x56#8] = .ok (.ldDAtHl, []) ∧
    decode [0x57#8] = .ok (.ldDA, []) ∧
    decode [0x58#8] = .ok (.ldEB, []) ∧
    decode [0x59#8] = .ok (.ldEC, []) ∧
    decode [0x5A#8] = .ok (.ldED, []) ∧
    decode [0x5B#8] = .ok (.ldEE, []) ∧
    decode [0x5C#8] = .ok (.ldEH, []) ∧
    decode [0x5D#8] = .ok (.ldEL, []) ∧
    decode [0x5E#8] = .ok (.ldEAtHl, []) ∧
    decode [0x5F#8] = .ok (.ldEA, []) := by
  refine ⟨?_, ?_, ?_, ?_, ?_, ?_, ?_, ?_, ?_, ?_, ?_, ?_, ?_, ?_, ?_, ?_⟩ <;> rfl

theorem test_decode_6x :
    decode [0x60#8] = .ok (.ldHB, []) ∧
    decode [0x61#8] = .ok (.ldHC, []) ∧
    decode [0x62#8] = .ok (.ldHD, []) ∧
    decode [0x63#8] = .ok (.ldHE, []) ∧
    decode [0x64#8] = .ok (.ldHH, []) ∧
    decode [0x65#8] = .ok (.ldHL, []) ∧
    decode [0x66#8] = .ok (.ldHAtHl, []) ∧
    decode [0x67#8] = .ok (.ldHA, []) ∧
    decode [0x68#8] = .ok (.ldLB, []) ∧
    decode [0x69#8] = .ok (.ldLC, []) ∧
    decode [0x6A#8] = .ok (.ldLD, []) ∧
    decode [0x6B#8] = .ok (.ldLE, []) ∧
    decode [0x6C#8] = .ok (.ldLH, []) ∧
    decode [0x6D#8] = .ok (.ldLL, []) ∧
    decode [0x6E#8] = .ok (.ldLAtHl, []) ∧
    decode [0x6F#8] = .ok (.ldLA, []) := by
  refine ⟨?_, ?_, ?_, ?_, ?_, ?_, ?_, ?_, ?_, ?_, ?_, ?_, ?_, ?_, ?_, ?_⟩ <;> rfl

theorem test_decode_7x :
    decode [0x70#8] = .ok (.ldAtHlB, []) ∧
    decode [0x71#8] = .ok (.ldAtHlC, []) ∧
    decode [0x72#8] = .ok (.ldAtHlD, []) ∧
    decode [0x73#8] = .ok (.ldAtHlE, []) ∧
    decode [0x74#8] = .ok (.ldAtHlH, []) ∧
    decode [0x75#8] = .ok (.ldAtHlL, []) ∧
    decode [0x76#8] = .ok (.halt, []) ∧
    decode [0x77#8] = .ok (.ldAtHlA, []) ∧
    decode [0x78#8] = .ok (.ldAB, []) ∧
    decode [0x79#8] = .ok (.ldAC, []) ∧
    decode [0x7A#8] = .ok (.ldAD, []) ∧
    decode [0x7B#8] = .ok (.ldAE, []) ∧
    decode [0x7C#8] = .ok (.ldAH, []) ∧
    decode [0x7D#8] = .ok (.ldAL, []) ∧
    decode [0x7E#8] = .ok (.ldAAtHl, []) ∧
    decode [0x7F#8] = .ok (.ldAA, []) := by
  refine ⟨?_, ?_, ?_, ?_, ?_, ?_, ?_, ?_, ?_, ?_, ?_, ?_, ?_, ?_, ?_, ?_⟩ <;> rfl

theorem test_decode_8x :
    decode [0x80#8] = .ok (.addAB, []) ∧
    decode [0x81#8] = .ok (.addAC, []) ∧
    decode [0x82#8] = .ok (.addAD, []) ∧
    decode [0x83#8] = .ok (.addAE, []) ∧
    decode [0x84#8] = .ok (.addAH, []) ∧
    decode [0x85#8] = .ok (.addAL, []) ∧
    decode [0x86#8] = .ok (.addAAtHl, []) ∧
    decode [0x87#8] = .ok (.addAA, []) ∧
    decode [0x88#8] = .ok (.adcAB, []) ∧
    decode [0x89#8] = .ok (.adcAC, []) ∧
    decode [0x8A#8] = .ok (.adcAD, []) ∧
    decode [0x8B#8] = .ok (.adcAE, []) ∧
    decode [0x8C#8] = .ok (.adcAH, []) ∧
    decode [0x8D#8] = .ok (.adcAL, []) ∧
    decode [0x8E#8] = .ok (.adcAAtHl, []) ∧
    decode [0x8F#8] = .ok (.adcAA, []) := by
  refine ⟨?_, ?_, ?_, ?_, ?_, ?_, ?_, ?_, ?_, ?_, ?_, ?_, ?_, ?_, ?_, ?_⟩ <;> rfl

theorem test_decode_9x :
    decode [0x90#8] = .ok (.subB, []) ∧
    decode [0x91#8] = .ok (.subC, []) ∧
    decode [0x92#8] = .ok (.subD, []) ∧
    decode [0x93#8] = .ok (.subE, []) ∧
    decode [0x94#8] = .ok (.subH, []) ∧
    decode [0x95#8] = .ok (.subL, []) ∧
    decode [0x96#8] = .ok (.subAtHl, []) ∧
    decode [0x97#8] = .ok (.subA, []) ∧
    decode [0x98#8] = .ok (.sbcAB, []) ∧
    decode [0x99#8] = .ok (.sbcAC, []) ∧
    decode [0x9A#8] = .ok (.sbcAD, []) ∧
    decode [0x9B#8] = .ok (.sbcAE, []) ∧
    decode [0x9C#8] = .ok (.sbcAH, []) ∧
    decode [0x9D#8] = .ok (.sbcAL, []) ∧
    decode [0x9E#8] = .ok (.sbcAAtHl, []) ∧
    decode [0x9F#8] = .ok (.sbcAA, []) := by
  refine ⟨?_, ?_, ?_, ?_, ?_, ?_, ?_, ?_, ?_, ?_, ?_, ?_, ?_, ?_, ?_, ?_⟩ <;> rfl

theorem test_decode_Ax :
    decode [0xA0#8] = .ok (.andB, []) ∧
    decode [0xA1#8] = .ok (.andC, []) ∧
    decode [0xA2#8] = .ok (.andD, []) ∧
    decode [0xA3#8] = .ok (.andE, []) ∧
    decode [0xA4#8] = .ok (.andH, []) ∧
    decode [0xA5#8] = .ok (.andL, []) ∧
    decode [0xA6#8] = .ok (.andAtHl, []) ∧
    decode [0xA7#8] = .ok (.andA, []) ∧
    decode [0xA8#8] = .ok (.xorB, []) ∧
    decode [0xA9#8] = .ok (.xorC, []) ∧
    decode [0xAA#8] = .ok (.xorD, []) ∧
    decode [0xAB#8] = .ok (.xorE, []) ∧
    decode [0xAC#8] = .ok (.xorH, []) ∧
    decode [0xAD#8] = .ok (.xorL, []) ∧
    decode [0xAE#8] = .ok (.xorAtHl, []) ∧
    decode [0xAF#8] = .ok (.xorA, []) := by
  refine ⟨?_, ?_, ?_, ?_, ?_, ?_, ?_, ?_, ?_, ?_, ?_, ?_, ?_, ?_, ?_, ?_⟩ <;> rfl

theorem test_decode_Bx :
    decode [0xB0#8] = .ok (.orB, []) ∧
    decode [0xB1#8] = .ok (.orC, []) ∧
    decode [0xB2#8] = .ok (.orD, []) ∧
    decode [0xB3#8] = .ok (.orE, []) ∧
    decode [0xB4#8] = .ok (.orH, []) ∧
    decode [0xB5#8] = .ok (.orL, []) ∧
    decode [0xB6#8] = .ok (.orAtHl, []) ∧
    decode [0xB7#8] = .ok (.orA, []) ∧
    decode [0xB8#8] = .ok (.cpB, []) ∧
    decode [0xB9#8] = .ok (.cpC, []) ∧
    decode [0xBA#8] = .ok (.cpD, []) ∧
    decode [0xBB#8] = .ok (.cpE, []) ∧
    decode [0xBC#8] = .ok (.cpH, []) ∧
    decode [0xBD#8] = .ok (.cpL, []) ∧
    decode [0xBE#8] = .ok (.cpAtHl, []) ∧
    decode [0xBF#8] = .ok (.cpA, []) := by
  refine ⟨?_, ?_, ?_, ?_, ?_, ?_, ?_, ?_, ?_, ?_, ?_, ?_, ?_, ?_, ?_, ?_⟩ <;> rfl

theorem test_decode_Cx :
    decode [0xC0#8] = .ok (.retNz, []) ∧
    decode [0xC1#8] = .ok (.popBc, []) ∧
    decode [0xC2#8, 0x34#8, 0x12#8] = .ok (.jpNzA16 0x1234#16, []) ∧
    decode [0xC3#8, 0x34#8, 0x12#8] = .ok (.jpA16 0x1234#16, []) ∧
    decode [0xC4#8, 0x34#8, 0x12#8] = .ok (.callNzA16 0x1234#16, []) ∧
    decode [0xC5#8] = .ok (.pushBc, []) ∧
    decode [0xC6#8, 0x34#8] = .ok (.addAD8 0x34#8, []) ∧
    decode [0xC7#8] = .ok (.rst00, []) ∧
    decode [0xC8#8] = .ok (.retZ, []) ∧
    decode [0xC9#8] = .ok (.ret, []) ∧
    decode [0xCA#8, 0x34#8, 0x12#8] = .ok (.jpZA16 0x1234#16, []) ∧
    decode [0xCC#8, 0x34#8, 0x12#8] = .ok (.callZA16 0x1234#16, []) ∧
    decode [0xCD#8, 0x34#8, 0x12#8] = .ok (.callA16 0x1234#16, []) ∧
    decode [0xCE#8, 0x34#8] = .ok (.adcAD8 0x34#8, []) ∧
    decode [0xCF#8] = .ok (.rst08, []) := by
  refine ⟨?_, ?_, ?_, ?_, ?_, ?_, ?_, ?_, ?_, ?_, ?_, ?_, ?_, ?_, ?_⟩ <;> rfl

theorem test_decode_Dx :
    decode [0xD0#8] = .ok (.retNc, []) ∧
    decode [0xD1#8] = .ok (.popDe, []) ∧
    decode [0xD2#8, 0x34#8, 0x12#8] = .ok (.jpNcA16 0x1234#16, []) ∧
    decode [0xD3#8] = .ok (.illegalD3, []) ∧
    decode [0xD4#8, 0x34#8, 0x12#8] = .ok (.callNcA16 0x1234#16, []) ∧
    decode [0xD5#8] = .ok (.pushDe, []) ∧
    decode [0xD6#8, 0x34#8] = .ok (.subD8 0x34#8, []) ∧
    decode [0xD7#8] = .ok (.rst10, []) ∧
    decode [0xD8#8] = .ok (.retC, []) ∧
    decode [0xD9#8] = .ok (.reti, []) ∧
    decode [0xDA#8, 0x34#8, 0x12#8] = .ok (.jpCA16 0x1234#16, []) ∧
    decode [0xDB#8] = .ok (.illegalDB, []) ∧
    decode [0xDC#8, 0x34#8, 0x12#8] = .ok (.callCA16 0x1234#16, []) ∧
    decode [0xDD#8] = .ok (.illegalDD, []) ∧
    decode [0xDE#8, 0x34#8] = .ok (.sbcAD8 0x34#8, []) ∧
    decode [0xDF#8] = .ok (.rst18, []) := by
  refine ⟨?_, ?_, ?_, ?_, ?_, ?_, ?_, ?_, ?_, ?_, ?_, ?_, ?_, ?_, ?_, ?_⟩ <;> rfl

theorem test_decode_Ex :
    decode [0xE0#8, 0x34#8] = .ok (.ldhAtA8A 0x34#8, []) ∧
    decode [0xE1#8] = .ok (.popHl, []) ∧
    decode [0xE2#8] = .ok (.ldAtCA, []) ∧
    decode [0xE3#8] = .ok (.illegalE3, []) ∧
    decode [0xE4#8] = .ok (.illegalE4, []) ∧
    decode [0xE5#8] = .ok (.pushHl, []) ∧
    decode [0xE6#8, 0x34#8] = .ok (.andD8 0x34#8, []) ∧
    decode [0xE7#8] = .ok (.rst20, []) ∧
    decode [0xE8#8, 0x34#8] = .ok (.addSpE8 0x34#8, []) ∧
    decode [0xE9#8] = .ok (.jpHl, []) ∧
    decode [0xEA#8, 0x34#8, 0x12#8] = .ok (.ldAtA16A 0x1234#16, []) ∧
    decode [0xEB#8] = .ok (.illegalEB, []) ∧
    decode [0xEC#8] = .ok (.illegalEC, []) ∧
    decode [0xED#8] = .ok (.illegalED, []) ∧
    decode [0xEE#8, 0x34#8] = .ok (.xorD8 0x34#8, []) ∧
    decode [0xEF#8] = .ok (.rst28, []) := by
  refine ⟨?_, ?_, ?_, ?_, ?_, ?_, ?_, ?_, ?_, ?_, ?_, ?_, ?_, ?_, ?_, ?_⟩ <;> rfl

theorem test_decode_Fx :
    decode [0xF0#8, 0x34#8] = .ok (.ldhAAtA8 0x34#8, []) ∧
    decode [0xF1#8] = .ok (.popAf, []) ∧
    decode [0xF2#8] = .ok (.ldAAtC, []) ∧
    decode [0xF3#8] = .ok (.di, []) ∧
    decode [0xF4#8] = .ok (.illegalF4, []) ∧
    decode [0xF5#8] = .ok (.pushAf, []) ∧
    decode [0xF6#8, 0x34#8] = .ok (.orD8 0x34#8, []) ∧
    decode [0xF7#8] = .ok (.rst30, []) ∧
    decode [0xF8#8, 0x34#8] = .ok (.ldHlSpE8 0x34#8, []) ∧
    decode [0xF9#8] = .ok (.ldSpHl, []) ∧
    decode [0xFA#8, 0x34#8, 0x12#8] = .ok (.ldAAtA16 0x1234#16, []) ∧
    decode [0xFB#8] = .ok (.ei, []) ∧
    decode [0xFC#8] = .ok (.illegalFC, []) ∧
    decode [0xFD#8] = .ok (.illegalFD, []) ∧
    decode [0xFE#8, 0x34#8] = .ok (.cpD8 0x34#8, []) ∧
    decode [0xFF#8] = .ok (.rst38, []) := by
  refine ⟨?_, ?_, ?_, ?_, ?_, ?_, ?_, ?_, ?_, ?_, ?_, ?_, ?_, ?_, ?_, ?_⟩ <;> rfl

theorem test_decode_cb0x :
    decode [0xCB#8, 0x00#8] = .ok (.cbRlcB, []) ∧
    decode [0xCB#8, 0x01#8] = .ok (.cbRlcC, []) ∧
    decode [0xCB#8, 0x02#8] = .ok (.cbRlcD, []) ∧
    decode [0xCB#8, 0x03#8] = .ok (.cbRlcE, []) ∧
    decode [0xCB#8, 0x04#8] = .ok (.cbRlcH, []) ∧
    decode [0xCB#8, 0x05#8] = .ok (.cbRlcL, []) ∧
    decode [0xCB#8, 0x06#8] = .ok (.cbRlcAtHl, []) ∧
    decode [0xCB#8, 0x07#8] = .ok (.cbRlcA, []) ∧
    decode [0xCB#8, 0x08#8] = .ok (.cbRrcB, []) ∧
    decode [0xCB#8, 0x09#8] = .ok (.cbRrcC, []) ∧
    decode [0xCB#8, 0x0A#8] = .ok (.cbRrcD, []) ∧
    decode [0xCB#8, 0x0B#8] = .ok (.cbRrcE, []) ∧
    decode [0xCB#8, 0x0C#8] = .ok (.cbRrcH, []) ∧
    decode [0xCB#8, 0x0D#8] = .ok (.cbRrcL, []) ∧
    decode [0xCB#8, 0x0E#8] = .ok (.cbRrcAtHl, []) ∧
    decode [0xCB#8, 0x0F#8] = .ok (.cbRrcA, []) := by
  refine ⟨?_, ?_, ?_, ?_, ?_, ?_, ?_, ?_, ?_, ?_, ?_, ?_, ?_, ?_, ?_, ?_⟩ <;> rfl

theorem test_decode_cb1x :
    decode [0xCB#8, 0x10#8] = .ok (.cbRlB, []) ∧
    decode [0xCB#8, 0x11#8] = .ok (.cbRlC, []) ∧
    decode [0xCB#8, 0x12#8] = .ok (.cbRlD, []) ∧
    decode [0xCB#8, 0x13#8] = .ok (.cbRlE, []) ∧
    decode [0xCB#8, 0x14#8] = .ok (.cbRlH, []) ∧
    decode [0xCB#8, 0x15#8] = .ok (.cbRlL, []) ∧
    decode [0xCB#8, 0x16#8] = .ok (.cbRlAtHl, []) ∧
    decode [0xCB#8, 0x17#8] = .ok (.cbRlA, []) ∧
    decode [0xCB#8, 0x18#8] = .ok (.cbRrB, []) ∧
    decode [0xCB#8, 0x19#8] = .ok (.cbRrC, []) ∧
    decode [0xCB#8, 0x1A#8] = .ok (.cbRrD, []) ∧
    decode [0xCB#8, 0x1B#8] = .ok (.cbRrE, []) ∧
    decode [0xCB#8, 0x1C#8] = .ok (.cbRrH, []) ∧
    decode [0xCB#8, 0x1D#8] = .ok (.cbRrL, []) ∧
    decode [0xCB#8, 0x1E#8] = .ok (.cbRrAtHl, []) ∧
    decode [0xCB#8, 0x1F#8] = .ok (.cbRrA, []) := by
  refine ⟨?_, ?_, ?_, ?_, ?_, ?_, ?_, ?_, ?_, ?_, ?_, ?_, ?_, ?_, ?_, ?_⟩ <;> rfl

theorem test_decode_cb2x :
    decode [0xCB#8, 0x20#8] = .ok (.cbSlaB, []) ∧
    decode [0xCB#8, 0x21#8] = .ok (.cbSlaC, []) ∧
    decode [0xCB#8, 0x22#8] = .ok (.cbSlaD, []) ∧
    decode [0xCB#8, 0x23#8] = .ok (.cbSlaE, []) ∧
    decode [0xCB#8, 0x24#8] = .ok (.cbSlaH, []) ∧
    decode [0xCB#8, 0x25#8] = .ok (.cbSlaL, []) ∧
    decode [0xCB#8, 0x26#8] = .ok (.cbSlaAtHl, []) ∧
    decode [0xCB#8, 0x27#8] = .ok (.cbSlaA, []) ∧
    decode [0xCB#8, 0x28#8] = .ok (.cbSraB, []) ∧
    decode [0xCB#8, 0x29#8] = .ok (.cbSraC, []) ∧
    decode [0xCB#8, 0x2A#8] = .ok (.cbSraD, []) ∧
    decode [0xCB#8, 0x2B#8] = .ok (.cbSraE, []) ∧
    decode [0xCB#8, 0x2C#8] = .ok (.cbSraH, []) ∧
    decode [0xCB#8, 0x2D#8] = .ok (.cbSraL, []) ∧
    decode [0xCB#8, 0x2E#8] = .ok (.cbSraAtHl, []) ∧
    decode [0xCB#8, 0x2F#8] = .ok (.cbSraA, []) := by
  refine ⟨?_, ?_, ?_, ?_, ?_, ?_, ?_, ?_, ?_, ?_, ?_, ?_, ?_, ?_, ?_, ?_⟩ <;> rfl

theorem test_decode_cb3x :
    decode [0xCB#8, 0x30#8] = .ok (.cbSwapB, []) ∧
    decode [0xCB#8, 0x31#8] = .ok (.cbSwapC, []) ∧
    decode [0xCB#8, 0x32#8] = .ok (.cbSwapD, []) ∧
    decode [0xCB#8, 0x33#8] = .ok (.cbSwapE, []) ∧
    decode [0xCB#8, 0x34#8] = .ok (.cbSwapH, []) ∧
    decode [0xCB#8, 0x35#8] = .ok (.cbSwapL, []) ∧
    decode [0xCB#8, 0x36#8] = .ok (.cbSwapAtHl, []) ∧
    decode [0xCB#8, 0x37#8] = .ok (.cbSwapA, []) ∧
    decode [0xCB#8, 0x38#8] = .ok (.cbSrlB, []) ∧
    decode [0xCB#8, 0x39#8] = .ok (.cbSrlC, []) ∧
    decode [0xCB#8, 0x3A#8] = .ok (.cbSrlD, []) ∧
    decode [0xCB#8, 0x3B#8] = .ok (.cbSrlE, []) ∧
    decode [0xCB#8, 0x3C#8] = .ok (.cbSrlH, []) ∧
    decode [0xCB#8, 0x3D#8] = .ok (.cbSrlL, []) ∧
    decode [0xCB#8, 0x3E#8] = .ok (.cbSrlAtHl, []) ∧
    decode [0xCB#8, 0x3F#8] = .ok (.cbSrlA, []) := by
  refine ⟨?_, ?_, ?_, ?_, ?_, ?_, ?_, ?_, ?_, ?_, ?_, ?_, ?_, ?_, ?_, ?_⟩ <;> rfl

theorem test_decode_cb4x :
    decode [0xCB#8, 0x40#8] = .ok (.bit0B, []) ∧
    decode [0xCB#8, 0x41#8] = .ok (.bit0C, []) ∧
    decode [0xCB#8, 0x42#8] = .ok (.bit0D, []) ∧
    decode [0xCB#8, 0x43#8] = .ok (.bit0E, []) ∧
    decode [0xCB#8, 0x44#8] = .ok (.bit0H, []) ∧
    decode [0xCB#8, 0x45#8] = .ok (.bit0L, []) ∧
    decode [0xCB#8, 0x46#8] = .ok (.bit0AtHl, []) ∧
    decode [0xCB#8, 0x47#8] = .ok (.bit0A, []) ∧
    decode [0xCB#8, 0x48#8] = .ok (.bit1B, []) ∧
    decode [0xCB#8, 0x49#8] = .ok (.bit1C, []) ∧
    decode [0xCB#8, 0x4A#8] = .ok (.bit1D, []) ∧
    decode [0xCB#8, 0x4B#8] = .ok (.bit1E, []) ∧
    decode [0xCB#8, 0x4C#8] = .ok (.bit1H, []) ∧
    decode [0xCB#8, 0x4D#8] = .ok (.bit1L, []) ∧
    decode [0xCB#8, 0x4E#8] = .ok (.bit1AtHl, []) ∧
    decode [0xCB#8, 0x4F#8] = .ok (.bit1A, []) := by
  refine ⟨?_, ?_, ?_, ?_, ?_, ?_, ?_, ?_, ?_, ?_, ?_, ?_, ?_, ?_, ?_, ?_⟩ <;> rfl

theorem test_decode_cb5x :
    decode [0xCB#8, 0x50#8] = .ok (.bit2B, []) ∧
    decode [0xCB#8, 0x51#8] = .ok (.bit2C, []) ∧
    decode [0xCB#8, 0x52#8] = .ok (.bit2D, []) ∧
    decode [0xCB#8, 0x53#8] = .ok (.bit2E, []) ∧
    decode [0xCB#8, 0x54#8] = .ok (.bit2H, []) ∧
    decode [0xCB#8, 0x55#8] = .ok (.bit2L, []) ∧
    decode [0xCB#8, 0x56#8] = .ok (.bit2AtHl, []) ∧
    decode [0xCB#8, 0x57#8] = .ok (.bit2A, []) ∧
    decode [0xCB#8, 0x58#8] = .ok (.bit3B, []) ∧
    decode [0xCB#8, 0x59#8] = .ok (.bit3C, []) ∧
    decode [0xCB#8, 0x5A#8] = .ok (.bit3D, []) ∧
    decode [0xCB#8, 0x5B#8] = .ok (.bit3E, []) ∧
    decode [0xCB#8, 0x5C#8] = .ok (.bit3H, []) ∧
    decode [0xCB#8, 0x5D#8] = .ok (.bit3L, []) ∧
    decode [0xCB#8, 0x5E#8] = .ok (.bit3AtHl, []) ∧
    decode [0xCB#8, 0x5F#8] = .ok (.bit3A, []) := by
  refine ⟨?_, ?_, ?_, ?_, ?_, ?_, ?_, ?_, ?_, ?_, ?_, ?_, ?_, ?_, ?_, ?_⟩ <;> rfl

theorem test_decode_cb6x :
    decode [0xCB#8, 0x60#8] = .ok (.bit4B, []) ∧
    decode [0xCB#8, 0x61#8] = .ok (.bit4C, []) ∧
    decode [0xCB#8, 0x62#8] = .ok (.bit4D, []) ∧
    decode [0xCB#8, 0x63#8] = .ok (.bit4E, []) ∧
    decode [0xCB#8, 0x64#8] = .ok (.bit4H, []) ∧
    decode [0xCB#8, 0x65#8] = .ok (.bit4L, []) ∧
    decode [0xCB#8, 0x66#8] = .ok (.bit4AtHl, []) ∧
    decode [0xCB#8, 0x67#8] = .ok (.bit4A, []) ∧
    decode [0xCB#8, 0x68#8] = .ok (.bit5B, []) ∧
    decode [0xCB#8, 0x69#8] = .ok (.bit5C, []) ∧
    decode [0xCB#8, 0x6A#8] = .ok (.bit5D, []) ∧
    decode [0xCB#8, 0x6B#8] = .ok (.bit5E, []) ∧
    decode [0xCB#8, 0x6C#8] = .ok (.bit5H, []) ∧
    decode [0xCB#8, 0x6D#8] = .ok (.bit5L, []) ∧
    decode [0xCB#8, 0x6E#8] = .ok (.bit5AtHl, []) ∧
    decode [0xCB#8, 0x6F#8] = .ok (.bit5A, []) := by
  refine ⟨?_, ?_, ?_, ?_, ?_, ?_, ?_, ?_, ?_, ?_, ?_, ?_, ?_, ?_, ?_, ?_⟩ <;> rfl

theorem test_decode_cb7x :
    decode [0xCB#8, 0x70#8] = .ok (.bit6B, []) ∧
    decode [0xCB#8, 0x71#8] = .ok (.bit6C, []) ∧
    decode [0xCB#8, 0x72#8] = .ok (.bit6D, []) ∧
    decode [0xCB#8, 0x73#8] = .ok (.bit6E, []) ∧
    decode [0xCB#8, 0x74#8] = .ok (.bit6H, []) ∧
    decode [0xCB#8, 0x75#8] = .ok (.bit6L, []) ∧
    decode [0xCB#8, 0x76#8] = .ok (.bit6AtHl, []) ∧
    decode [0xCB#8, 0x77#8] = .ok (.bit6A, []) ∧
    decode [0xCB#8, 0x78#8] = .ok (.bit7B, []) ∧
    decode [0xCB#8, 0x79#8] = .ok (.bit7C, []) ∧
    decode [0xCB#8, 0x7A#8] = .ok (.bit7D, []) ∧
    decode [0xCB#8, 0x7B#8] = .ok (.bit7E, []) ∧
    decode [0xCB#8, 0x7C#8] = .ok (.bit7H, []) ∧
    decode [0xCB#8, 0x7D#8] = .ok (.bit7L, []) ∧
    decode [0xCB#8, 0x7E#8] = .ok (.bit7AtHl, []) ∧
    decode [0xCB#8, 0x7F#8] = .ok (.bit7A, []) := by
  refine ⟨?_, ?_, ?_, ?_, ?_, ?_, ?_, ?_, ?_, ?_, ?_, ?_, ?_, ?_, ?_, ?_⟩ <;> rfl

theorem test_decode_cb8x :
    decode [0xCB#8, 0x80#8] = .ok (.res0B, []) ∧
    decode [0xCB#8, 0x81#8] = .ok (.res0C, []) ∧
    decode [0xCB#8, 0x82#8] = .ok (.res0D, []) ∧
    decode [0xCB#8, 0x83#8] = .ok (.res0E, []) ∧
    decode [0xCB#8, 0x84#8] = .ok (.res0H, []) ∧
    decode [0xCB#8, 0x85#8] = .ok (.res0L, []) ∧
    decode [0xCB#8, 0x86#8] = .ok (.res0AtHl, []) ∧
    decode [0xCB#8, 0x87#8] = .ok (.res0A, []) ∧
    decode [0xCB#8, 0x88#8] = .ok (.res1B, []) ∧
    decode [0xCB#8, 0x89#8] = .ok (.res1C, []) ∧
    decode [0xCB#8, 0x8A#8] = .ok (.res1D, []) ∧
    decode [0xCB#8, 0x8B#8] = .ok (.res1E, []) ∧
    decode [0xCB#8, 0x8C#8] = .ok (.res1H, []) ∧
    decode [0xCB#8, 0x8D#8] = .ok (.res1L, []) ∧
    decode [0xCB#8, 0x8E#8] = .ok (.res1AtHl, []) ∧
    decode [0xCB#8, 0x8F#8] = .ok (.res1A, []) := by
  refine ⟨?_, ?_, ?_, ?_, ?_, ?_, ?_, ?_, ?_, ?_, ?_, ?_, ?_, ?_, ?_, ?_⟩ <;> rfl

theorem test_decode_cb9x :
    decode [0xCB#8, 0x90#8] = .ok (.res2B, []) ∧
    decode [0xCB#8, 0x91#8] = .ok (.res2C, []) ∧
    decode [0xCB#8, 0x92#8] = .ok (.res2D, []) ∧
    decode [0xCB#8, 0x93#8] = .ok (.res2E, []) ∧
    decode [0xCB#8, 0x94#8] = .ok (.res2H, []) ∧
    decode [0xCB#8, 0x95#8] = .ok (.res2L, []) ∧
    decode [0xCB#8, 0x96#8] = .ok (.res2AtHl, []) ∧
    decode [0xCB#8, 0x97#8] = .ok (.res2A, []) ∧
    decode [0xCB#8, 0x98#8] = .ok (.res3B, []) ∧
    decode [0xCB#8, 0x99#8] = .ok (.res3C, []) ∧
    decode [0xCB#8, 0x9A#8] = .ok (.res3D, []) ∧
    decode [0xCB#8, 0x9B#8] = .ok (.res3E, []) ∧
    decode [0xCB#8, 0x9C#8] = .ok (.res3H, []) ∧
    decode [0xCB#8, 0x9D#8] = .ok (.res3L, []) ∧
    decode [0xCB#8, 0x9E#8] = .ok (.res3AtHl, []) ∧
    decode [0xCB#8, 0x9F#8] = .ok (.res3A, []) := by
  refine ⟨?_, ?_, ?_, ?_, ?_, ?_, ?_, ?_, ?_, ?_, ?_, ?_, ?_, ?_, ?_, ?_⟩ <;> rfl

theorem test_decode_cbAx :
    decode [0xCB#8, 0xA0#8] = .ok (.res4B, []) ∧
    decode [0xCB#8, 0xA1#8] = .ok (.res4C, []) ∧
    decode [0xCB#8, 0xA2#8] = .ok (.res4D, []) ∧
    decode [0xCB#8, 0xA3#8] = .ok (.res4E, []) ∧
    decode [0xCB#8, 0xA4#8] = .ok (.res4H, []) ∧
    decode [0xCB#8, 0xA5#8] = .ok (.res4L, []) ∧
    decode [0xCB#8, 0xA6#8] = .ok (.res4AtHl, []) ∧
    decode [0xCB#8, 0xA7#8] = .ok (.res4A, []) ∧
    decode [0xCB#8, 0xA8#8] = .ok (.res5B, []) ∧
    decode [0xCB#8, 0xA9#8] = .ok (.res5C, []) ∧
    decode [0xCB#8, 0xAA#8] = .ok (.res5D, []) ∧
    decode [0xCB#8, 0xAB#8] = .ok (.res5E, []) ∧
    decode [0xCB#8, 0xAC#8] = .ok (.res5H, []) ∧
    decode [0xCB#8, 0xAD#8] = .ok (.res5L, []) ∧
    decode [0xCB#8, 0xAE#8] = .ok (.res5AtHl, []) ∧
    decode [0xCB#8, 0xAF#8] = .ok (.res5A, []) := by
  refine ⟨?_, ?_, ?_, ?_, ?_, ?_, ?_, ?_, ?_, ?_, ?_, ?_, ?_, ?_, ?_, ?_⟩ <;> rfl

theorem test_decode_cbBx :
    decode [0xCB#8, 0xB0#8] = .ok (.res6B, []) ∧
    decode [0xCB#8, 0xB1#8] = .ok (.res6C, []) ∧
    decode [0xCB#8, 0xB2#8] = .ok (.res6D, []) ∧
    decode [0xCB#8, 0xB3#8] = .ok (.res6E, []) ∧
    decode [0xCB#8, 0xB4#8] = .ok (.res6H, []) ∧
    decode [0xCB#8, 0xB5#8] = .ok (.res6L, []) ∧
    decode [0xCB#8, 0xB6#8] = .ok (.res6AtHl, []) ∧
    decode [0xCB#8, 0xB7#8] = .ok (.res6A, []) ∧
    decode [0xCB#8, 0xB8#8] = .ok (.res7B, []) ∧
    decode [0xCB#8, 0xB9#8] = .ok (.res7C, []) ∧
    decode [0xCB#8, 0xBA#8] = .ok (.res7D, []) ∧
    decode [0xCB#8, 0xBB#8] = .ok (.res7E, []) ∧
    decode [0xCB#8, 0xBC#8] = .ok (.res7H, []) ∧
    decode [0xCB#8, 0xBD#8] = .ok (.res7L, []) ∧
    decode [0xCB#8, 0xBE#8] = .ok (.res7AtHl, []) ∧
    decode [0xCB#8, 0xBF#8] = .ok (.res7A, []) := by
  refine ⟨?_, ?_, ?_, ?_, ?_, ?_, ?_, ?_, ?_, ?_, ?_, ?_, ?_, ?_, ?_, ?_⟩ <;> rfl

theorem test_decode_cbCx :
    decode [0xCB#8, 0xC0#8] = .ok (.set0B, []) ∧
    decode [0xCB#8, 0xC1#8] = .ok (.set0C, []) ∧
    decode [0xCB#8, 0xC2#8] = .ok (.set0D, []) ∧
    decode [0xCB#8, 0xC3#8] = .ok (.set0E, []) ∧
    decode [0xCB#8, 0xC4#8] = .ok (.set0H, []) ∧
    decode [0xCB#8, 0xC5#8] = .ok (.set0L, []) ∧
    decode [0xCB#8, 0xC6#8] = .ok (.set0AtHl, []) ∧
    decode [0xCB#8, 0xC7#8] = .ok (.set0A, []) ∧
    decode [0xCB#8, 0xC8#8] = .ok (.set1B, []) ∧
    decode [0xCB#8, 0xC9#8] = .ok (.set1C, []) ∧
    decode [0xCB#8, 0xCA#8] = .ok (.set1D, []) ∧
    decode [0xCB#8, 0xCB#8] = .ok (.set1E, []) ∧
    decode [0xCB#8, 0xCC#8] = .ok (.set1H, []) ∧
    decode [0xCB#8, 0xCD#8] = .ok (.set1L, []) ∧
    decode [0xCB#8, 0xCE#8] = .ok (.set1AtHl, []) ∧
    decode [0xCB#8, 0xCF#8] = .ok (.set1A, []) := by
  refine ⟨?_, ?_, ?_, ?_, ?_, ?_, ?_, ?_, ?_, ?_, ?_, ?_, ?_, ?_, ?_, ?_⟩ <;> rfl

theorem test_decode_cbDx :
    decode [0xCB#8, 0xD0#8] = .ok (.set2B, []) ∧
    decode [0xCB#8, 0xD1#8] = .ok (.set2C, []) ∧
    decode [0xCB#8, 0xD2#8] = .ok (.set2D, []) ∧
    decode [0xCB#8, 0xD3#8] = .ok (.set2E, []) ∧
    decode [0xCB#8, 0xD4#8] = .ok (.set2H, []) ∧
    decode [0xCB#8, 0xD5#8] = .ok (.set2L, []) ∧
    decode [0xCB#8, 0xD6#8] = .ok (.set2AtHl, []) ∧
    decode [0xCB#8, 0xD7#8] = .ok (.set2A, []) ∧
    decode [0xCB#8, 0xD8#8] = .ok (.set3B, []) ∧
    decode [0xCB#8, 0xD9#8] = .ok (.set3C, []) ∧
    decode [0xCB#8, 0xDA#8] = .ok (.set3D, []) ∧
    decode [0xCB#8, 0xDB#8] = .ok (.set3E, []) ∧
    decode [0xCB#8, 0xDC#8] = .ok (.set3H, []) ∧
    decode [0xCB#8, 0xDD#8] = .ok (.set3L, []) ∧
    decode [0xCB#8, 0xDE#8] = .ok (.set3AtHl, []) ∧
    decode [0xCB#8, 0xDF#8] = .ok (.set3A, []) := by
  refine ⟨?_, ?_, ?_, ?_, ?_, ?_, ?_, ?_, ?_, ?_, ?_, ?_, ?_, ?_, ?_, ?_⟩ <;> rfl

theorem test_decode_cbEx :
    decode [0xCB#8, 0xE0#8] = .ok (.set4B, []) ∧
    decode [0xCB#8, 0xE1#8] = .ok (.set4C, []) ∧
    decode [0xCB#8, 0xE2#8] = .ok (.set4D, []) ∧
    decode [0xCB#8, 0xE3#8] = .ok (.set4E, []) ∧
    decode [0xCB#8, 0xE4#8] = .ok (.set4H, []) ∧
    decode [0xCB#8, 0xE5#8] = .ok (.set4L, []) ∧
    decode [0xCB#8, 0xE6#8] = .ok (.set4AtHl, []) ∧
    decode [0xCB#8, 0xE7#8] = .ok (.set4A, []) ∧
    decode [0xCB#8, 0xE8#8] = .ok (.set5B, []) ∧
    decode [0xCB#8, 0xE9#8] = .ok (.set5C, []) ∧
    decode [0xCB#8, 0xEA#8] = .ok (.set5D, []) ∧
    decode [0xCB#8, 0xEB#8] = .ok (.set5E, []) ∧
    decode [0xCB#8, 0xEC#8] = .ok (.set5H, []) ∧
    decode [0xCB#8, 0xED#8] = .ok (.set5L, []) ∧
    decode [0xCB#8, 0xEE#8] = .ok (.set5AtHl, []) ∧
    decode [0xCB#8, 0xEF#8] = .ok (.set5A, []) := by
  refine ⟨?_, ?_, ?_, ?_, ?_, ?_, ?_, ?_, ?_, ?_, ?_, ?_, ?_, ?_, ?_, ?_⟩ <;> rfl

theorem test_decode_cbFx :
    decode [0xCB#8, 0xF0#8] = .ok (.set6B, []) ∧
    decode [0xCB#8, 0xF1#8] = .ok (.set6C, []) ∧
    decode [0xCB#8, 0xF2#8] = .ok (.set6D, []) ∧
    decode [0xCB#8, 0xF3#8] = .ok (.set6E, []) ∧
    decode [0xCB#8, 0xF4#8] = .ok (.set6H, []) ∧
    decode [0xCB#8, 0xF5#8] = .ok (.set6L, []) ∧
    decode [0xCB#8, 0xF6#8] = .ok (.set6AtHl, []) ∧
    decode [0xCB#8, 0xF7#8] = .ok (.set6A, []) ∧
    decode [0xCB#8, 0xF8#8] = .ok (.set7B, []) ∧
    decode [0xCB#8, 0xF9#8] = .ok (.set7C, []) ∧
    decode [0xCB#8, 0xFA#8] = .ok (.set7D, []) ∧
    decode [0xCB#8, 0xFB#8] = .ok (.set7E, []) ∧
    decode [0xCB#8, 0xFC#8] = .ok (.set7H, []) ∧
    decode [0xCB#8, 0xFD#8] = .ok (.set7L, []) ∧
    decode [0xCB#8, 0xFE#8] = .ok (.set7AtHl, []) ∧
    decode [0xCB#8, 0xFF#8] = .ok (.set7A, []) := by
  refine ⟨?_, ?_, ?_, ?_, ?_, ?_, ?_, ?_, ?_, ?_, ?_, ?_, ?_, ?_, ?_, ?_⟩ <;> rfl

theorem test_decode_refuses_truncated : decode [] = .error .noOpcode ∧ decode [0xCB#8] = .error .noExtendedOpcode ∧
    decode [0x06#8] = .error .noImmediate ∧ decode [0xC3#8, 0x34#8] = .error .noImmediate := by
  refine ⟨?_, ?_, ?_, ?_⟩ <;> rfl

theorem test_decodeTableWord : decodeTableWord 16 0xCB46 = some .bit0AtHl ∧ decodeTableWord 8 0x46 = some .ldBAtHl ∧
    decodeTableWord 8 0xC3 = some (.jpA16 0#16) ∧ decodeTableWord 16 0x4206 = some (.ldBD8 0x42#8) := by
  refine ⟨?_, ?_, ?_, ?_⟩ <;> rfl

/-! ## Vectors: helpers -/

/-- The start of a vector: reset, with instruction bytes placed at `pc`. -/
def code (s : State) (bytes : List Byte) : State := s.placeBytes s.pc bytes

/-- A byte of memory set. -/
def put (s : State) (addr : Word) (v : Byte) : State := (s.poke addr v).getD s

/-- HL set. -/
def hl (s : State) (v : Word) : State := s.setHl v

/-- Flags in the order Z N H C. -/
def fl (z n h c : Bool) : Flags := ⟨z, n, h, c⟩

/-- The answer is a next state that passes the test. -/
def passes (o : Out) (test : State → Bool) : Bool :=
  match o with
  | .next t => test t
  | _ => false

/-- The answer stops with a condition in a state that passes the test. -/
def stops (o : Out) (c : FatalCondition) (test : State → Bool) : Bool :=
  match o with
  | .fault (.fatal c' t) => decide (c' = c) && decide (t.fault = some c) && test t
  | _ => false

/-- The start state of the vectors: reset without a boot image. -/
abbrev R0 : State := State.reset

/-! ## Vectors: one step each (spec/95_test_vectors.md, sections 2.2 to 2.8) -/

theorem test_d1_swap_a :
    passes (step (code ({ R0 with a := 0x12#8 }) [0xCB#8, 0x37#8])) (fun t => decide (
      t.a = 0x21#8 ∧ t.pc = 0x0102#16 ∧ t.clkFine = 8#8 ∧ t.clkCoarse = 2#8)) = true := by
  decide

theorem test_d2_escape_across_regions :
    passes (step (put (put { R0 with pc := 0x7FFF#16, a := 0x12#8 } 0x7FFF#16 0xCB#8) 0x8000#16 0x37#8)) (fun t => decide (
      t.a = 0x21#8 ∧ t.pc = 0x8001#16 ∧ t.clkFine = 8#8 ∧ t.clkCoarse = 2#8)) = true := by
  decide

theorem test_d5_clocks_wrap :
    passes (step (code ({ R0 with clkFine := 0xFC#8 }) [0x00#8])) (fun t => decide (
      t.clkFine = 0#8 ∧ t.clkCoarse = 1#8)) = true := by
  decide

theorem test_l1_ld_b_c :
    passes (step (code ({ R0 with c := 0x99#8 }) [0x41#8])) (fun t => decide (
      t.b = 0x99#8 ∧ t.clkFine = 4#8 ∧ t.clkCoarse = 1#8)) = true := by
  decide

theorem test_l2_ld_atHl_d8 :
    passes (step (code ({ R0 with h := 0xC1#8, l := 0x23#8 }) [0x36#8, 0x5A#8])) (fun t => decide (
      t.peek 0xC123#16 = some 0x5A#8 ∧ t.pc = 0x0102#16 ∧ t.clkFine = 12#8 ∧ t.clkCoarse = 3#8)) = true := by
  decide

theorem test_l3_ld_a_hlInc :
    passes (step (code (put ({ R0 with h := 0xFF#8, l := 0xFF#8 }) 0xFFFF#16 0x77#8) [0x2A#8])) (fun t => decide (
      t.a = 0x77#8 ∧ t.hl = 0x0000#16 ∧ t.clkFine = 8#8 ∧ t.clkCoarse = 2#8)) = true := by
  decide

theorem test_l4_ld_hlDec_a :
    passes (step (code ({ R0 with a := 0x11#8, h := 0xC0#8, l := 0x00#8 }) [0x32#8])) (fun t => decide (
      t.peek 0xC000#16 = some 0x11#8 ∧ t.hl = 0xBFFF#16 ∧ t.clkFine = 8#8 ∧ t.clkCoarse = 2#8)) = true := by
  decide

theorem test_l5_ld_a_a16_echo :
    passes (step (code (put R0 0xC000#16 0x3C#8) [0xFA#8, 0x00#8, 0xE0#8])) (fun t => decide (
      t.a = 0x3C#8 ∧ t.clkFine = 16#8 ∧ t.clkCoarse = 4#8)) = true := by
  decide

theorem test_l7_ldh_a_ly :
    passes (step (code ({ R0 with a := 0x55#8 }) [0xF0#8, 0x44#8])) (fun t => decide (
      t.a = 0x00#8 ∧ t.clkFine = 12#8 ∧ t.clkCoarse = 3#8)) = true := by
  decide

theorem test_l8_ldh_ly_a :
    passes (step (code ({ R0 with a := 0x99#8 }) [0xE0#8, 0x44#8])) (fun t => decide (
      t.display.scanline = 0 ∧ t.clkFine = 12#8 ∧ t.clkCoarse = 3#8)) = true := by
  decide

theorem test_l9_ld_atC_a :
    passes (step (code ({ R0 with a := 0xAB#8, c := 0x80#8 }) [0xE2#8])) (fun t => decide (
      t.peek 0xFF80#16 = some 0xAB#8 ∧ t.clkFine = 8#8 ∧ t.clkCoarse = 2#8)) = true := by
  decide

theorem test_l10_ld_a_atC :
    passes (step (code ({ R0 with a := 0x01#8, c := 0x42#8 }) [0xF2#8])) (fun t => decide (
      t.a = 0x00#8 ∧ t.clkFine = 8#8 ∧ t.clkCoarse = 2#8)) = true := by
  decide

theorem test_l11_ld_a16_sp :
    passes (step (code ({ R0 with sp := 0xBEEF#16 }) [0x08#8, 0x00#8, 0xC0#8])) (fun t => decide (
      t.peek 0xC000#16 = some 0xEF#8 ∧ t.peek 0xC001#16 = some 0xBE#8 ∧ t.clkFine = 20#8 ∧ t.clkCoarse = 5#8)) = true := by
  decide

theorem test_l12_ld_a16_sp_wraps :
    passes (step (code ({ R0 with sp := 0x1234#16 }) [0x08#8, 0xFF#8, 0xFF#8])) (fun t => decide (
      t.peek 0xFFFF#16 = some 0x34#8 ∧ t.peek 0x0000#16 = some 0x12#8 ∧ t.clkFine = 20#8 ∧ t.clkCoarse = 5#8)) = true := by
  decide

theorem test_l13_ld_sp_hl :
    passes (step (code ({ R0 with h := 0x12#8, l := 0x34#8 }) [0xF9#8])) (fun t => decide (
      t.sp = 0x1234#16 ∧ t.clkFine = 8#8 ∧ t.clkCoarse = 2#8)) = true := by
  decide

theorem test_l14_push_af :
    passes (step (code ({ R0 with a := 0x12#8, sp := 0xD000#16, flags := fl true false false true }) [0xF5#8])) (fun t => decide (
      t.sp = 0xCFFE#16 ∧ t.peek 0xCFFF#16 = some 0x12#8 ∧ t.peek 0xCFFE#16 = some 0x90#8 ∧
      t.clkFine = 16#8 ∧ t.clkCoarse = 4#8)) = true := by
  decide

theorem test_l15_pop_af :
    passes (step (code (put ({ R0 with a := 0x05#8, sp := 0xD000#16 }) 0xD000#16 0xFF#8) [0xF1#8])) (fun t => decide (
      t.a = 0x00#8 ∧ t.flags = fl true true true true ∧ t.sp = 0xD002#16 ∧ t.clkFine = 12#8 ∧ t.clkCoarse = 3#8)) = true := by
  decide

theorem test_l16_pop_bc :
    passes (step (code (put (put ({ R0 with sp := 0xFFFE#16 }) 0xFFFE#16 0x34#8) 0xFFFF#16 0x12#8) [0xC1#8])) (fun t => decide (
      t.b = 0x12#8 ∧ t.c = 0x34#8 ∧ t.sp = 0x0000#16 ∧ t.clkFine = 12#8 ∧ t.clkCoarse = 3#8)) = true := by
  decide

theorem test_l17_ld_bc_d16 :
    passes (step (code R0 [0x01#8, 0x34#8, 0x12#8])) (fun t => decide (
      t.b = 0x12#8 ∧ t.c = 0x34#8 ∧ t.pc = 0x0103#16 ∧ t.clkFine = 12#8 ∧ t.clkCoarse = 3#8)) = true := by
  decide

theorem test_a8_1 :
    passes (step (code ({ R0 with a := 0xFF#8, b := 0x01#8 }) [0x80#8])) (fun t => decide (
      t.a = 0x00#8 ∧ t.flags = fl true false true true ∧ t.clkFine = 4#8 ∧ t.clkCoarse = 1#8)) = true := by
  decide

theorem test_a8_2 :
    passes (step (code ({ R0 with a := 0x10#8, b := 0x01#8 }) [0x90#8])) (fun t => decide (
      t.a = 0x0F#8 ∧ t.flags = fl false true true false ∧ t.clkFine = 4#8 ∧ t.clkCoarse = 1#8)) = true := by
  decide

theorem test_a8_3 :
    passes (step (code ({ R0 with a := 0x01#8 }) [0xC6#8, 0x0F#8])) (fun t => decide (
      t.a = 0x10#8 ∧ t.flags = fl false false true false ∧ t.clkFine = 8#8 ∧ t.clkCoarse = 2#8)) = true := by
  decide

theorem test_a8_4 :
    passes (step (code ({ R0 with a := 0x80#8 }) [0x87#8])) (fun t => decide (
      t.a = 0x00#8 ∧ t.flags = fl true false false true)) = true := by
  decide

theorem test_a8_5 :
    passes (step (code ({ R0 with a := 0xF0#8, flags := fl false false false true }) [0xCE#8, 0x0F#8])) (fun t => decide (
      t.a = 0x00#8 ∧ t.flags = fl true false true true ∧ t.clkFine = 8#8 ∧ t.clkCoarse = 2#8)) = true := by
  decide

theorem test_a8_6 :
    passes (step (code ({ R0 with a := 0x0E#8, b := 0x01#8, flags := fl false false false true }) [0x88#8])) (fun t => decide (
      t.a = 0x10#8 ∧ t.flags = fl false false true false)) = true := by
  decide

theorem test_a8_7 :
    passes (step (code ({ R0 with a := 0x5A#8 }) [0x97#8])) (fun t => decide (
      t.a = 0x00#8 ∧ t.flags = fl true true false false)) = true := by
  decide

theorem test_a8_8 :
    passes (step (code ({ R0 with a := 0x00#8 }) [0xD6#8, 0x01#8])) (fun t => decide (
      t.a = 0xFF#8 ∧ t.flags = fl false true true true ∧ t.clkFine = 8#8 ∧ t.clkCoarse = 2#8)) = true := by
  decide

theorem test_a8_9 :
    passes (step (code ({ R0 with a := 0x00#8, flags := fl false false false true }) [0xDE#8, 0x00#8])) (fun t => decide (
      t.a = 0xFF#8 ∧ t.flags = fl false true true true)) = true := by
  decide

theorem test_a8_10 :
    passes (step (code ({ R0 with a := 0x10#8, b := 0x0F#8, flags := fl false false false true }) [0x98#8])) (fun t => decide (
      t.a = 0x00#8 ∧ t.flags = fl true true true false)) = true := by
  decide

theorem test_a8_11 :
    passes (step (code ({ R0 with a := 0x42#8 }) [0xFE#8, 0x42#8])) (fun t => decide (
      t.a = 0x42#8 ∧ t.flags = fl true true false false)) = true := by
  decide

theorem test_a8_12 :
    passes (step (code (put ({ R0 with a := 0x01#8, h := 0xC0#8, l := 0x00#8 }) 0xC000#16 0x02#8) [0xBE#8])) (fun t => decide (
      t.a = 0x01#8 ∧ t.flags = fl false true true true ∧ t.clkFine = 8#8 ∧ t.clkCoarse = 2#8)) = true := by
  decide

theorem test_a8_13 :
    passes (step (code ({ R0 with a := 0xF0#8, flags := fl false false false true }) [0xE6#8, 0x0F#8])) (fun t => decide (
      t.a = 0x00#8 ∧ t.flags = fl true false true false)) = true := by
  decide

theorem test_a8_14 :
    passes (step (code ({ R0 with a := 0x3C#8, flags := fl false false true true }) [0xAF#8])) (fun t => decide (
      t.a = 0x00#8 ∧ t.flags = fl true false false false)) = true := by
  decide

theorem test_a8_15 :
    passes (step (code ({ R0 with flags := fl false false false true }) [0xB0#8])) (fun t => decide (
      t.a = 0x00#8 ∧ t.flags = fl true false false false)) = true := by
  decide

theorem test_a8_16 :
    passes (step (code ({ R0 with b := 0xFF#8 }) [0x04#8])) (fun t => decide (
      t.b = 0x00#8 ∧ t.flags = fl true false true true)) = true := by
  decide

theorem test_a8_17 :
    passes (step (code ({ R0 with b := 0x0F#8, flags := fl false false false true }) [0x04#8])) (fun t => decide (
      t.b = 0x10#8 ∧ t.flags = fl false false true false)) = true := by
  decide

theorem test_a8_18 :
    passes (step (code ({ R0 with b := 0x00#8 }) [0x05#8])) (fun t => decide (
      t.b = 0xFF#8 ∧ t.flags = fl false true true true)) = true := by
  decide

theorem test_a8_19 :
    passes (step (code ({ R0 with b := 0x01#8 }) [0x05#8])) (fun t => decide (
      t.b = 0x00#8 ∧ t.flags = fl true true false false)) = true := by
  decide

theorem test_a8_21 :
    passes (step (code (put ({ R0 with h := 0xC0#8, l := 0x10#8 }) 0xC010#16 0x7F#8) [0x34#8])) (fun t => decide (
      t.peek 0xC010#16 = some 0x80#8 ∧ t.flags = fl false false true false ∧ t.clkFine = 12#8 ∧ t.clkCoarse = 3#8)) = true := by
  decide

theorem test_a8_22 :
    passes (step (code ({ R0 with h := 0xC0#8, l := 0x10#8 }) [0x35#8])) (fun t => decide (
      t.peek 0xC010#16 = some 0xFF#8 ∧ t.flags = fl false true true true ∧ t.clkFine = 12#8 ∧ t.clkCoarse = 3#8)) = true := by
  decide

theorem test_a8_23 :
    passes (step (code ({ R0 with a := 0x9A#8 }) [0x27#8])) (fun t => decide (
      t.a = 0x00#8 ∧ t.flags = fl true false false true)) = true := by
  decide

theorem test_a8_24 :
    passes (step (code ({ R0 with a := 0x0F#8, flags := fl false true true false }) [0x27#8])) (fun t => decide (
      t.a = 0x09#8 ∧ t.flags = fl false true false false)) = true := by
  decide

theorem test_a8_25 :
    passes (step (code ({ R0 with a := 0x00#8, flags := fl true false false true }) [0x2F#8])) (fun t => decide (
      t.a = 0xFF#8 ∧ t.flags = fl true true true true)) = true := by
  decide

theorem test_a8_26 :
    passes (step (code ({ R0 with flags := fl true true true false }) [0x37#8])) (fun t => decide (
      t.flags = fl true false false true)) = true := by
  decide

theorem test_a8_27 :
    passes (step (code R0 [0x3F#8])) (fun t => decide (
      t.flags = fl false false false true)) = true := by
  decide

theorem test_a8_28 :
    passes (step (code ({ R0 with a := 0x80#8 }) [0x07#8])) (fun t => decide (
      t.a = 0x01#8 ∧ t.flags = fl false false false true)) = true := by
  decide

theorem test_a8_29 :
    passes (step (code ({ R0 with a := 0x01#8 }) [0x0F#8])) (fun t => decide (
      t.a = 0x80#8 ∧ t.flags = fl false false false true)) = true := by
  decide

theorem test_a8_30 :
    passes (step (code ({ R0 with a := 0x80#8 }) [0x17#8])) (fun t => decide (
      t.a = 0x00#8 ∧ t.flags = fl false false false true)) = true := by
  decide

theorem test_a8_31 :
    passes (step (code ({ R0 with a := 0x00#8, flags := fl false false false true }) [0x1F#8])) (fun t => decide (
      t.a = 0x80#8 ∧ t.flags = fl false false false false)) = true := by
  decide

theorem test_a16_1 :
    passes (step (code ({ R0 with b := 0x00#8, c := 0x01#8, h := 0x0F#8, l := 0xFF#8, flags := fl true false false false }) [0x09#8])) (fun t => decide (
      t.hl = 0x1000#16 ∧ t.flags = fl true false true false ∧ t.clkFine = 8#8 ∧ t.clkCoarse = 2#8)) = true := by
  decide

theorem test_a16_2 :
    passes (step (code ({ R0 with sp := 0x0001#16, h := 0xFF#8, l := 0xFF#8 }) [0x39#8])) (fun t => decide (
      t.hl = 0x0000#16 ∧ t.flags = fl false false true true)) = true := by
  decide

theorem test_a16_3 :
    passes (step (code ({ R0 with h := 0x40#8, l := 0x00#8 }) [0x29#8])) (fun t => decide (
      t.hl = 0x8000#16 ∧ t.flags = fl false false false false)) = true := by
  decide

theorem test_a16_4 :
    passes (step (code ({ R0 with b := 0xFF#8, c := 0xFF#8, flags := fl true true false true }) [0x03#8])) (fun t => decide (
      t.bc = 0#16 ∧ t.flags = fl true true false true ∧ t.clkFine = 8#8 ∧ t.clkCoarse = 2#8)) = true := by
  decide

theorem test_a16_5 :
    passes (step (code ({ R0 with flags := fl false true true false }) [0x1B#8])) (fun t => decide (
      t.de = 0xFFFF#16 ∧ t.flags = fl false true true false)) = true := by
  decide

theorem test_a16_6 :
    passes (step (code ({ R0 with sp := 0xFFFF#16 }) [0x33#8])) (fun t => decide (
      t.sp = 0x0000#16)) = true := by
  decide

theorem test_a16_7 :
    passes (step (code ({ R0 with sp := 0x0001#16 }) [0xE8#8, 0xFF#8])) (fun t => decide (
      t.sp = 0x0000#16 ∧ t.flags = fl false false true true ∧ t.clkFine = 16#8 ∧ t.clkCoarse = 4#8)) = true := by
  decide

theorem test_a16_8 :
    passes (step (code ({ R0 with sp := 0x00FF#16 }) [0xE8#8, 0x01#8])) (fun t => decide (
      t.sp = 0x0100#16 ∧ t.flags = fl false false true true)) = true := by
  decide

theorem test_a16_9 :
    passes (step (code ({ R0 with sp := 0x0100#16 }) [0xF8#8, 0x80#8])) (fun t => decide (
      t.hl = 0x0080#16 ∧ t.sp = 0x0100#16 ∧ t.flags = fl false false false false ∧
      t.clkFine = 12#8 ∧ t.clkCoarse = 3#8)) = true := by
  decide

theorem test_a16_10 :
    passes (step (code ({ R0 with sp := 0xFFFF#16 }) [0xF8#8, 0x01#8])) (fun t => decide (
      t.hl = 0x0000#16 ∧ t.flags = fl false false true true)) = true := by
  decide

theorem test_c1 :
    passes (step (code R0 [0xC3#8, 0x00#8, 0xC0#8])) (fun t => decide (
      t.pc = 0xC000#16 ∧ t.clkFine = 16#8 ∧ t.clkCoarse = 4#8)) = true := by
  decide

theorem test_c2 :
    passes (step (code ({ R0 with flags := fl true false false false }) [0xC2#8, 0x00#8, 0xC0#8])) (fun t => decide (
      t.pc = 0x0103#16 ∧ t.clkFine = 12#8 ∧ t.clkCoarse = 3#8)) = true := by
  decide

theorem test_c3 :
    passes (step (code ({ R0 with flags := fl false false false true }) [0xDA#8, 0x00#8, 0xC0#8])) (fun t => decide (
      t.pc = 0xC000#16 ∧ t.clkFine = 16#8 ∧ t.clkCoarse = 4#8)) = true := by
  decide

theorem test_c4 :
    passes (step (code ({ R0 with h := 0xFF#8, l := 0x80#8 }) [0xE9#8])) (fun t => decide (
      t.pc = 0xFF80#16 ∧ t.clkFine = 4#8 ∧ t.clkCoarse = 1#8)) = true := by
  decide

theorem test_c5 :
    passes (step (code R0 [0x18#8, 0x7F#8])) (fun t => decide (
      t.pc = 0x0181#16 ∧ t.clkFine = 12#8 ∧ t.clkCoarse = 3#8)) = true := by
  decide

theorem test_c7 :
    passes (step (code ({ R0 with pc := 0xFFFE#16 }) [0x18#8, 0x05#8])) (fun t => decide (
      t.pc = 0x0005#16 ∧ t.clkFine = 12#8 ∧ t.clkCoarse = 3#8)) = true := by
  decide

theorem test_c8 :
    passes (step (code ({ R0 with flags := fl false false false true }) [0x30#8, 0xFE#8])) (fun t => decide (
      t.pc = 0x0102#16 ∧ t.clkFine = 8#8 ∧ t.clkCoarse = 2#8 ∧ t.notTaken = false)) = true := by
  decide

theorem test_c9 :
    passes (step (code ({ R0 with flags := fl true false false false }) [0x28#8, 0xFE#8])) (fun t => decide (
      t.pc = 0x0100#16 ∧ t.clkFine = 12#8 ∧ t.clkCoarse = 3#8)) = true := by
  decide

theorem test_c10 :
    passes (step (code ({ R0 with sp := 0xFFFE#16 }) [0xCD#8, 0x34#8, 0x12#8])) (fun t => decide (
      t.pc = 0x1234#16 ∧ t.sp = 0xFFFC#16 ∧ t.peek 0xFFFD#16 = some 0x01#8 ∧ t.peek 0xFFFC#16 = some 0x03#8 ∧
      t.clkFine = 24#8 ∧ t.clkCoarse = 6#8)) = true := by
  decide

theorem test_c11 :
    passes (step (code ({ R0 with sp := 0xFFFE#16, flags := fl true false false false }) [0xC4#8, 0x34#8, 0x12#8])) (fun t => decide (
      t.pc = 0x0103#16 ∧ t.sp = 0xFFFE#16 ∧ t.peek 0xFFFD#16 = some 0x00#8 ∧ t.clkFine = 12#8 ∧ t.clkCoarse = 3#8)) = true := by
  decide

theorem test_c12 :
    passes (step (code ({ R0 with sp := 0xD000#16, flags := fl false false false true }) [0xDC#8, 0x34#8, 0x12#8])) (fun t => decide (
      t.pc = 0x1234#16 ∧ t.sp = 0xCFFE#16 ∧ t.peek 0xCFFF#16 = some 0x01#8 ∧ t.peek 0xCFFE#16 = some 0x03#8 ∧
      t.clkFine = 24#8 ∧ t.clkCoarse = 6#8)) = true := by
  decide

theorem test_c13 :
    passes (step (code (put (put ({ R0 with sp := 0xFFFC#16 }) 0xFFFC#16 0x03#8) 0xFFFD#16 0x01#8) [0xC9#8])) (fun t => decide (
      t.pc = 0x0103#16 ∧ t.sp = 0xFFFE#16 ∧ t.clkFine = 16#8 ∧ t.clkCoarse = 4#8)) = true := by
  decide

theorem test_c14 :
    passes (step (code (put (put ({ R0 with sp := 0xFFFC#16 }) 0xFFFC#16 0x03#8) 0xFFFD#16 0x01#8) [0xD0#8])) (fun t => decide (
      t.pc = 0x0103#16 ∧ t.sp = 0xFFFE#16 ∧ t.clkFine = 20#8 ∧ t.clkCoarse = 5#8)) = true := by
  decide

theorem test_c15 :
    passes (step (code (put (put ({ R0 with sp := 0xFFFC#16 }) 0xFFFC#16 0x03#8) 0xFFFD#16 0x01#8) [0xC8#8])) (fun t => decide (
      t.pc = 0x0101#16 ∧ t.sp = 0xFFFC#16 ∧ t.clkFine = 8#8 ∧ t.clkCoarse = 2#8)) = true := by
  decide

theorem test_c16 :
    passes (step (code (put (put ({ R0 with sp := 0xFFFC#16 }) 0xFFFC#16 0x00#8) 0xFFFD#16 0xC0#8) [0xD9#8])) (fun t => decide (
      t.pc = 0xC000#16 ∧ t.sp = 0xFFFE#16 ∧ t.ime = true ∧ t.clkFine = 16#8 ∧ t.clkCoarse = 4#8)) = true := by
  decide

theorem test_c17 :
    passes (step (code ({ R0 with sp := 0xFFFE#16 }) [0xCF#8])) (fun t => decide (
      t.pc = 0x0008#16 ∧ t.sp = 0xFFFC#16 ∧ t.peek 0xFFFD#16 = some 0x01#8 ∧ t.peek 0xFFFC#16 = some 0x01#8 ∧
      t.clkFine = 16#8 ∧ t.clkCoarse = 4#8)) = true := by
  decide

theorem test_c18 :
    passes (step (code ({ R0 with sp := 0xFFFE#16, pc := 0xC123#16 }) [0xC7#8])) (fun t => decide (
      t.pc = 0x0000#16 ∧ t.sp = 0xFFFC#16 ∧ t.peek 0xFFFD#16 = some 0xC1#8 ∧ t.peek 0xFFFC#16 = some 0x24#8 ∧
      t.clkFine = 16#8 ∧ t.clkCoarse = 4#8)) = true := by
  decide

theorem test_x1 :
    passes (step (code ({ R0 with b := 0x85#8 }) [0xCB#8, 0x00#8])) (fun t => decide (
      t.b = 0x0B#8 ∧ t.flags = fl false false false true ∧ t.clkFine = 8#8 ∧ t.clkCoarse = 2#8)) = true := by
  decide

theorem test_x2 :
    passes (step (code ({ R0 with b := 0x00#8 }) [0xCB#8, 0x00#8])) (fun t => decide (
      t.b = 0x00#8 ∧ t.flags = fl true false false false)) = true := by
  decide

theorem test_x3 :
    passes (step (code ({ R0 with c := 0x01#8 }) [0xCB#8, 0x09#8])) (fun t => decide (
      t.c = 0x80#8 ∧ t.flags = fl false false false true)) = true := by
  decide

theorem test_x4 :
    passes (step (code ({ R0 with d := 0x80#8 }) [0xCB#8, 0x12#8])) (fun t => decide (
      t.d = 0x00#8 ∧ t.flags = fl true false false true)) = true := by
  decide

theorem test_x5 :
    passes (step (code ({ R0 with e := 0x01#8, flags := fl false false false true }) [0xCB#8, 0x1B#8])) (fun t => decide (
      t.e = 0x80#8 ∧ t.flags = fl false false false true)) = true := by
  decide

theorem test_x6 :
    passes (step (code ({ R0 with h := 0xC0#8 }) [0xCB#8, 0x24#8])) (fun t => decide (
      t.h = 0x80#8 ∧ t.flags = fl false false false true)) = true := by
  decide

theorem test_x7 :
    passes (step (code ({ R0 with l := 0x81#8 }) [0xCB#8, 0x2D#8])) (fun t => decide (
      t.l = 0xC0#8 ∧ t.flags = fl false false false true)) = true := by
  decide

theorem test_x8 :
    passes (step (code ({ R0 with a := 0xF1#8, flags := fl false false false true }) [0xCB#8, 0x37#8])) (fun t => decide (
      t.a = 0x1F#8 ∧ t.flags = fl false false false false)) = true := by
  decide

theorem test_x10 :
    passes (step (code ({ R0 with a := 0x01#8 }) [0xCB#8, 0x3F#8])) (fun t => decide (
      t.a = 0x00#8 ∧ t.flags = fl true false false true)) = true := by
  decide

theorem test_x11 :
    passes (step (code (put ({ R0 with h := 0xC0#8, l := 0x00#8 }) 0xC000#16 0x80#8) [0xCB#8, 0x06#8])) (fun t => decide (
      t.peek 0xC000#16 = some 0x01#8 ∧ t.flags = fl false false false true ∧ t.clkFine = 16#8 ∧ t.clkCoarse = 4#8)) = true := by
  decide

theorem test_x12 :
    passes (step (code ({ R0 with h := 0x80#8, flags := fl false false false true }) [0xCB#8, 0x7C#8])) (fun t => decide (
      t.h = 0x80#8 ∧ t.flags = fl false false true true ∧ t.clkFine = 8#8 ∧ t.clkCoarse = 2#8)) = true := by
  decide

theorem test_x13 :
    passes (step (code ({ R0 with a := 0xFE#8 }) [0xCB#8, 0x47#8])) (fun t => decide (
      t.flags = fl true false true false)) = true := by
  decide

theorem test_x14 :
    passes (step (code (put ({ R0 with h := 0xC0#8, l := 0x00#8 }) 0xC000#16 0x08#8) [0xCB#8, 0x5E#8])) (fun t => decide (
      t.flags = fl false false true false ∧ t.clkFine = 12#8 ∧ t.clkCoarse = 3#8)) = true := by
  decide

theorem test_x15 :
    passes (step (code ({ R0 with a := 0xFF#8, flags := fl true false false false }) [0xCB#8, 0xBF#8])) (fun t => decide (
      t.a = 0x7F#8 ∧ t.flags = fl true false false false)) = true := by
  decide

theorem test_x16 :
    passes (step (code (put ({ R0 with h := 0xC0#8, l := 0x00#8 }) 0xC000#16 0xFF#8) [0xCB#8, 0x86#8])) (fun t => decide (
      t.peek 0xC000#16 = some 0xFE#8 ∧ t.clkFine = 16#8 ∧ t.clkCoarse = 4#8)) = true := by
  decide

theorem test_x17 :
    passes (step (code R0 [0xCB#8, 0xCB#8])) (fun t => decide (
      t.e = 0x02#8 ∧ t.clkFine = 8#8 ∧ t.clkCoarse = 2#8)) = true := by
  decide

theorem test_x18 :
    passes (step (code ({ R0 with h := 0xC0#8, l := 0x00#8 }) [0xCB#8, 0xFE#8])) (fun t => decide (
      t.peek 0xC000#16 = some 0x80#8 ∧ t.clkFine = 16#8 ∧ t.clkCoarse = 4#8)) = true := by
  decide

theorem test_y1_nop :
    passes (step (code R0 [0x00#8, 0x00#8])) (fun t => decide (
      t.pc = 0x0101#16 ∧ t.clkFine = 4#8 ∧ t.clkCoarse = 1#8)) = true := by
  decide

theorem test_y2_halt :
    passes (step (code R0 [0x76#8, 0x3C#8])) (fun t => decide (
      t.pc = 0x0101#16 ∧ t.halted = true ∧ t.clkFine = 4#8 ∧ t.clkCoarse = 1#8)) = true := by
  decide

theorem test_y3_stop :
    passes (step (code R0 [0x10#8, 0x00#8, 0x3C#8])) (fun t => decide (
      t.pc = 0x0102#16 ∧ t.halted = true ∧ t.clkFine = 4#8 ∧ t.clkCoarse = 1#8)) = true := by
  decide

theorem test_y4_di :
    passes (step (code ({ R0 with ime := true }) [0xF3#8])) (fun t => decide (
      t.ime = false ∧ t.clkFine = 4#8 ∧ t.clkCoarse = 1#8)) = true := by
  decide

theorem test_y5_ei :
    passes (step (code R0 [0xFB#8])) (fun t => decide (
      t.ime = true ∧ t.clkFine = 4#8 ∧ t.clkCoarse = 1#8)) = true := by
  decide

theorem test_d3_escape_second_byte :
    stops (step (code ({ R0 with pc := 0xFE9F#16 }) [0xCB#8])) (.invalidMemoryAccess 0xFEA0#16 .fetch) (fun t => decide (
      t.pc = 0xFEA0#16 ∧ t.clkFine = 0#8)) = true := by
  decide

theorem test_l6_ld_a16_a_unmapped :
    stops (step (code ({ R0 with a := 0x01#8 }) [0xEA#8, 0x10#8, 0xFF#8])) (.invalidMemoryAccess 0xFF10#16 .write) (fun t => decide (
      t.pc = 0x0103#16 ∧ t.clkFine = 0#8)) = true := by
  decide

theorem test_a8_32_add_a_atHl_unmapped :
    stops (step (code ({ R0 with a := 0x07#8, h := 0xFF#8, l := 0x41#8, flags := fl true false false true }) [0x86#8])) (.invalidMemoryAccess 0xFF41#16 .read) (fun t => decide (
      t.a = 0x07#8 ∧ t.flags = fl true false false true)) = true := by
  decide

theorem test_c19_call_second_push :
    stops (step (code ({ R0 with sp := 0xFF41#16 }) [0xCD#8, 0x00#8, 0xC0#8])) (.invalidMemoryAccess 0xFF3F#16 .write) (fun t => decide (
      t.sp = 0xFF3F#16 ∧ t.display.lcdc = 1#8 ∧ t.pc = 0x0103#16 ∧ t.clkFine = 0#8)) = true := by
  decide

theorem test_x19_set_unmapped :
    stops (step (code ({ R0 with h := 0xFF#8, l := 0x10#8 }) [0xCB#8, 0xC6#8])) (.invalidMemoryAccess 0xFF10#16 .read) (fun t => decide (
      t.pc = 0x0102#16 ∧ t.clkFine = 0#8)) = true := by
  decide

theorem test_y6_illegal :
    stops (step (code (R0) [0xD3#8])) (.unimplementedInstruction false 0xD3#8 0x0100#16 0x0100#16) (fun t => decide (
      t.pc = 0x0101#16 ∧ t.clkFine = 0#8)) = true := by
  decide

theorem test_y8_fetch_oam_hole :
    stops (step ({ R0 with pc := 0xFEA0#16 })) (.invalidMemoryAccess 0xFEA0#16 .fetch) (fun t => decide (
      t.pc = 0xFEA0#16)) = true := by
  decide

theorem test_y9_fetch_window :
    stops (step ({ R0 with pc := 0xFF7F#16 })) (.invalidMemoryAccess 0xFF7F#16 .fetch) (fun t => decide (
      t.pc = 0xFF7F#16)) = true := by
  decide

theorem test_y7_stuck (c : FatalCondition) :
    stops (step { R0 with fault := some c }) c (fun t => decide (t = { R0 with fault := some c })) = true := by
  simp [stops, step, stepWith]

theorem test_y10_absent_extended :
    stops (stepWith { Config.standard with impl := fun p k => !(p && k == 0x37#8) } (code R0 [0xCB#8, 0x37#8]))
      (.unimplementedInstruction true 0x37#8 0x0101#16 0x0100#16) (fun t => decide (t.pc = 0x0102#16)) = true := by
  decide

theorem test_d7_overlay_unmaps :
    passes (step { R0 with bootActive := true, mem := [(0x0000, 0x3C#8)] })
      (fun t => decide (t.bootActive = false ∧ t.pc = 0x0101#16 ∧ t.peek 0x0000#16 = some 0x3C#8)) = true := by
  decide

theorem test_d8_overlay_stays_below_0100 :
    passes (step (code { R0 with bootActive := true, pc := 0x0000#16 } [0xC3#8, 0x00#8, 0x01#8]))
      (fun t => decide (t.bootActive = true ∧ t.pc = 0x0100#16 ∧ t.clkFine = 16#8 ∧ t.mem.wf = true)) = true := by
  decide

/-! ## Vectors: memory (section 2.1) -/

theorem test_m1_m3_overlay : { R0 with bootActive := true, mem := [(0x0000, 0x3C#8), (0x10000, 0xC3#8)] }.peek 0x0000#16 =
      some 0xC3#8 ∧ { R0 with mem := [(0x0000, 0x3C#8), (0x10000, 0xC3#8)] }.peek 0x0000#16 = some 0x3C#8 := by
  decide

theorem test_m5_rom_written : (put R0 0x0200#16 0x77#8).peek 0x0200#16 = some 0x77#8 := by decide

theorem test_m7_m8_mirror : (put R0 0xE000#16 0x5A#8).peek 0xC000#16 = some 0x5A#8 ∧
    (put R0 0xDDFF#16 0x11#8).peek 0xFDFF#16 = some 0x11#8 := by
  decide

theorem test_m10_m11_unmapped : [0xFEA0#16, 0xFEFF#16, 0xFF00#16, 0xFF0F#16, 0xFF41#16, 0xFF45#16, 0xFF46#16, 0xFF50#16,
    0xFF7F#16].all (fun addr => (R0.peek addr).isNone && (R0.poke addr 0#8).isNone) = true := by
  decide

theorem test_m12_ly_write_discarded : R0.poke 0xFF44#16 0x99#8 = some R0 := by decide

theorem test_m13_display_registers :
    let s := put (put (put (put R0 0xFF40#16 0x91#8) 0xFF42#16 0x12#8) 0xFF43#16 0x34#8) 0xFF47#16 0xE4#8
    s.peek 0xFF40#16 = some 0x91#8 ∧ s.peek 0xFF42#16 = some 0x12#8 ∧ s.peek 0xFF43#16 = some 0x34#8 ∧
      s.peek 0xFF47#16 = some 0xE4#8 := by
  decide

theorem test_m15_word_wraps : passes (writeWord 0xFFFF#16 0xABCD#16 R0 .next) (fun t => decide (
    t.peek 0xFFFF#16 = some 0xCD#8 ∧ t.peek 0x0000#16 = some 0xAB#8)) = true := by
  decide

theorem test_m16_word_straddles : passes (writeWord 0x9FFF#16 0xBEEF#16 R0 .next) (fun t => decide (
    t.mem = [(0x9FFF, 0xEF#8), (0xA000, 0xBE#8)])) = true := by
  decide

theorem test_m19_low_byte_stays : stops (writeWord 0xFF40#16 0x1234#16 R0 .next) (.invalidMemoryAccess 0xFF41#16 .write)
    (fun t => decide (t.display.lcdc = 0x34#8)) = true := by
  decide

/-! ## Vectors: the display (sections 2.9 and 2.10) -/

/-- Mode, scanline and mode clock after one advance. -/
def timing (d : Display) (n : Nat) : Mode × Nat × Nat × Nat :=
  let r := (d.advance [] n).1
  (r.mode, r.scanline, r.modeClock, r.frames)

theorem test_t2_threshold : timing .reset 79 = (.oamScan, 0, 79, 0) ∧ timing .reset 80 = (.vramRead, 0, 0, 0) := by decide

theorem test_t3_excess_discarded : timing { Display.reset with modeClock := 78 } 6 = (.vramRead, 0, 0, 0) := by decide

theorem test_t5_t6_vblank_entry :
    timing { Display.reset with mode := .hBlank, scanline := 141, modeClock := 203 } 1 = (.oamScan, 142, 0, 0) ∧
    timing { Display.reset with mode := .hBlank, scanline := 142, modeClock := 200 } 4 = (.vBlank, 143, 0, 1) ∧
    ({ Display.reset with mode := .hBlank, scanline := 142, modeClock := 200 }.advance [] 4).2 = [.frameReady] := by
  decide

theorem test_t7_t8_vblank_lines :
    timing { Display.reset with mode := .vBlank, scanline := 150, modeClock := 455 } 9 = (.vBlank, 151, 0, 0) ∧
    timing { Display.reset with mode := .vBlank, scanline := 153, modeClock := 455 } 1 = (.oamScan, 0, 0, 0) := by
  decide

/-- The first shades of the row rendered from registers and video memory. -/
def shades (lcdc bgp scx scy : Byte) (line : Nat) (mem : Memory) (n : Nat) : List Nat :=
  ((({ Display.reset with lcdc := lcdc, bgp := bgp, scx := scx, scy := scy, scanline := line } : Display).renderRow mem).take
    n).map BitVec.toNat

theorem test_g2_signed_tiles :
    shades 0x00#8 0xE4#8 0#8 0#8 2 [(0x8FF4, 0xF0#8), (0x8FF5, 0x0F#8), (0x9800, 0xFF#8)] 8 = [1, 1, 1, 1, 2, 2, 2, 2] := by
  decide

theorem test_g4_fine_scroll :
    shades 0x10#8 0xE4#8 3#8 0#8 0 [(0x8010, 0xFF#8), (0x8021, 0xFF#8), (0x9800, 1#8), (0x9801, 2#8)] 15 =
      [1, 1, 1, 1, 1, 2, 2, 2, 2, 2, 2, 2, 2, 0, 0] := by
  decide

theorem test_g5_line_wraps :
    shades 0x10#8 0xE4#8 0#8 0xFF#8 0 [(0x803E, 1#8), (0x803F, 1#8), (0x9BE0, 3#8)] 8 = [0, 0, 0, 0, 0, 0, 0, 3] := by
  decide

theorem test_g6_palette :
    shades 0x10#8 0x1B#8 0#8 0#8 0 [(0x8000, 0xF0#8), (0x8001, 0xCC#8)] 8 = [0, 0, 2, 2, 1, 1, 3, 3] := by
  decide

theorem test_g7_column_wraps :
    shades 0x10#8 0xE4#8 0xFB#8 0#8 0 [(0x8010, 0xFF#8), (0x8011, 0xFF#8), (0x8020, 0xFF#8), (0x9800, 2#8), (0x981F, 1#8)] 14 =
      [3, 3, 3, 3, 3, 1, 1, 1, 1, 1, 1, 1, 1, 0] := by
  decide

/-! ## Witnesses: states and operands that meet the hypotheses of each statement, one for each clause, at a boundary where the
hypothesis has one -/

/-- HL at an address. -/
def atHl (v : Word) : State := R0.setHl v

/-- SP at an address. -/
def atSp (v : Word) : State := { R0 with sp := v }

/-- The step fetches at an address. -/
def atPc (v : Word) (mem : Memory) : State := { R0 with pc := v, mem := mem }

theorem R0_running : R0.Running := ⟨rfl, rfl⟩

theorem witness_EncodeInvertsDecode : decode [0xCB#8, 0xCB#8, 0x00#8] = .ok (.set1E, [0x00#8]) := rfl

theorem witness_IllegalOpcodesAreTheElevenHoles : WellFormed .nop ∧ ¬ WellFormed .illegalFD := by decide

/-- Its bytes straddle ROM and VRAM; the instruction completes. -/
theorem witness_StepRunsDecodedInstruction_next :
    (atPc 0x7FFF#16 [(0x7FFF, 0xCB#8), (0x8000, 0x37#8)]).Running ∧
    (bootUnmapCheck (atPc 0x7FFF#16 [(0x7FFF, 0xCB#8), (0x8000, 0x37#8)])).holdsBytes 0x7FFF#16 [0xCB#8, 0x37#8] ∧
    decode [0xCB#8, 0x37#8] = .ok (.cbSwapA, []) ∧ WellFormed .cbSwapA ∧
    ∃ t, exec .cbSwapA { bootUnmapCheck (atPc 0x7FFF#16 [(0x7FFF, 0xCB#8), (0x8000, 0x37#8)]) with
      pc := 0x7FFF#16 + BitVec.ofNat 16 2 } = .next t := by
  refine ⟨⟨rfl, rfl⟩, ?_, rfl, by decide, _, rfl⟩
  unfold State.holdsBytes
  decide

/-- The instruction stops. -/
theorem witness_StepRunsDecodedInstruction_fault :
    (atPc 0xFF80#16 [(0xFF80, 0x0A#8)]).Running ∧
    (bootUnmapCheck { atPc 0xFF80#16 [(0xFF80, 0x0A#8)] with b := 0xFF#8 }).holdsBytes 0xFF80#16 [0x0A#8] ∧
    decode [0x0A#8] = .ok (.ldAAtBc, []) ∧ WellFormed .ldAAtBc ∧
    ∃ f, exec .ldAAtBc { bootUnmapCheck { atPc 0xFF80#16 [(0xFF80, 0x0A#8)] with b := 0xFF#8 } with
      pc := 0xFF80#16 + BitVec.ofNat 16 1 } = .fault f := by
  refine ⟨⟨rfl, rfl⟩, ?_, rfl, by decide, _, rfl⟩
  unfold State.holdsBytes
  decide

theorem witness_HaltedStepOnlyCountsTime : { R0 with halted := true }.fault = none ∧ { R0 with halted := true }.halted = true :=
  ⟨rfl, rfl⟩

theorem witness_HaltedMachineStaysHalted :
    { R0 with halted := true, pc := 0xFEA0#16 }.fault = none ∧ { R0 with halted := true, pc := 0xFEA0#16 }.halted = true :=
  ⟨rfl, rfl⟩

theorem witness_BootOverlayUnmapsBeforeFetch :
    { R0 with bootActive := true }.fault = none ∧ 0x0100 ≤ { R0 with bootActive := true }.pc.toNat ∧
    (∃ t, stepWith Config.standard { R0 with bootActive := true } = .next t) ∧
    (∃ t, stepWith Config.standard { R0 with bootActive := true, pc := 0x00FF#16 } = .next t) ∧
    ∃ c t, stepWith Config.standard { R0 with bootActive := true, pc := 0xFF7F#16 } = .fault (.fatal c t) :=
  ⟨rfl, by decide, ⟨_, rfl⟩, ⟨_, rfl⟩, _, _, rfl⟩

theorem witness_StoppedStepChargesNothing :
    ∃ c t, stepWith Config.standard (code (atSp 0xFF41#16) [0xCD#8, 0x00#8, 0xC0#8]) = .fault (.fatal c t) := ⟨_, _, rfl⟩

theorem witness_AbsentEntryStops_primary : R0.Running ∧ 0x00#8 ≠ 0xCB#8 ∧ (bootUnmapCheck R0).peek R0.pc = some 0x00#8 ∧
    ({ Config.standard with impl := fun p k => p || k != 0x00#8 } : Config).impl false 0x00#8 = false :=
  ⟨⟨rfl, rfl⟩, by decide, rfl, by decide⟩

theorem witness_AbsentEntryStops_extended : (atPc 0x7FFF#16 [(0x7FFF, 0xCB#8)]).Running ∧
    (bootUnmapCheck (atPc 0x7FFF#16 [(0x7FFF, 0xCB#8)])).peek 0x7FFF#16 = some 0xCB#8 ∧
    (bootUnmapCheck (atPc 0x7FFF#16 [(0x7FFF, 0xCB#8)])).peek (0x7FFF#16 + 1) = some 0x00#8 ∧
    ({ Config.standard with impl := fun p _ => !p } : Config).impl true 0x00#8 = false :=
  ⟨⟨rfl, rfl⟩, by decide, by decide, rfl⟩

theorem witness_OpcodeFetchFaultPrecedesLookup :
    (atPc 0xFEA0#16 []).Running ∧ (bootUnmapCheck (atPc 0xFEA0#16 [])).peek 0xFEA0#16 = none ∧
    (atPc 0xFE9F#16 [(0xFE9F, 0xCB#8)]).Running ∧
    (bootUnmapCheck (atPc 0xFE9F#16 [(0xFE9F, 0xCB#8)])).peek 0xFE9F#16 = some 0xCB#8 ∧
    (bootUnmapCheck (atPc 0xFE9F#16 [(0xFE9F, 0xCB#8)])).peek (0xFE9F#16 + 1) = none :=
  ⟨⟨rfl, rfl⟩, by decide, ⟨rfl, rfl⟩, by decide, by decide⟩

theorem witness_OnlyUntakenConditionalsSetNotTaken :
    { R0 with flags := fl true false false false }.notTaken = false ∧
    (∃ t, exec (.jrNzE8 0x05#8) { R0 with flags := fl true false false false } = .next t ∧ t.notTaken = true) ∧
    (∃ t, exec (.jrZE8 0x05#8) { R0 with flags := fl true false false false } = .next t ∧ t.notTaken = false) :=
  ⟨rfl, ⟨_, rfl, rfl⟩, ⟨_, rfl, rfl⟩⟩

theorem witness_WritersOfHaltedAndIme :
    (∃ t, exec .halt R0 = .next t) ∧ (∃ t, exec (.stop 0x00#8) R0 = .next t) ∧ (∃ t, exec .di R0 = .next t) ∧
    (∃ t, exec .ei R0 = .next t) ∧ (∃ t, exec .reti R0 = .next t) ∧ ∃ t, exec .nop R0 = .next t :=
  ⟨⟨_, rfl⟩, ⟨_, rfl⟩, ⟨_, rfl⟩, ⟨_, rfl⟩, ⟨_, rfl⟩, _, rfl⟩

theorem jpHl_writes_no_flag : ¬ Instr.WritesFlags .jpHl := by
  rintro (⟨op, z, h⟩ | ⟨op, v, h⟩ | ⟨z, h⟩ | ⟨z, h⟩ | ⟨y, h⟩ | ⟨p, h⟩ | ⟨e, h⟩ | ⟨e, h⟩ | h | ⟨op, z, h⟩ | ⟨b, z, h⟩)
  · cases op <;> cases z <;> cases h
  · cases op <;> cases h
  · cases z <;> cases h
  · cases z <;> cases h
  · revert y; decide
  · cases p <;> cases h
  · cases h
  · cases h
  · cases h
  · cases op <;> cases z <;> cases h
  · cases z <;> (revert b; decide)

theorem witness_FlagsWrittenOnlyByTheirInstructions :
    ¬ Instr.WritesFlags .jpHl ∧ ∃ t, exec .jpHl R0 = .next t := ⟨jpHl_writes_no_flag, _, rfl⟩

theorem jpHl_stores_nothing (s : State) (st : Word) : ¬ Instr.StoresTo .jpHl s st := by
  rintro (⟨z, _, h, _⟩ | ⟨v, h, _⟩ | ⟨h, _⟩ | ⟨h, _⟩ | ⟨h | h, _⟩ | ⟨t, h, _⟩ | ⟨n, h, _⟩ | ⟨h, _⟩ | ⟨t, h, _⟩ |
    ⟨h | h, _⟩ | ⟨op, h, _⟩ | ⟨b, h | h, _⟩ | ⟨⟨p, h⟩ | ⟨t, h⟩ | ⟨y, h⟩ | ⟨cc, t, h, _⟩, _⟩)
  case inl => cases z <;> cases h
  all_goals first
    | (cases h)
    | (cases op <;> cases h)
    | (cases p <;> cases h)
    | (cases cc <;> cases h)
    | (revert b; decide)
    | (revert y; decide)

theorem ldAtHlD8_stores_to_hl (v : Byte) (s : State) (st : Word) (h : Instr.StoresTo (.ldAtHlD8 v) s st) : st = s.hl := by
  obtain ⟨z, _, h, h'⟩ | ⟨v, h, h'⟩ | ⟨h, h'⟩ | ⟨h, h'⟩ | ⟨h | h, h'⟩ | ⟨t, h, h'⟩ | ⟨n, h, h'⟩ | ⟨h, h'⟩ | ⟨t, h, h'⟩ |
    ⟨h | h, h'⟩ | ⟨op, h, h'⟩ | ⟨b, h | h, h'⟩ | ⟨⟨p, h⟩ | ⟨t, h⟩ | ⟨y, h⟩ | ⟨cc, t, h, _⟩, h'⟩ := h
  all_goals first
    | exact h'
    | (cases h)
    | (cases p <;> cases h)
    | (cases cc <;> cases h)
    | (exfalso; revert y; intro y; revert y; apply forall_field3 <;> nofun)

/-- A store, and an address it does not reach; and an instruction that stores nothing. -/
theorem witness_MemoryFrame :
    (∃ t, exec (.ldAtHlD8 0x5A#8) (atHl 0xFFFF#16) = .next t) ∧
    (∀ st, Instr.StoresTo (.ldAtHlD8 0x5A#8) (atHl 0xFFFF#16) st →
      route (atHl 0xFFFF#16).bootActive 0x0000#16 ≠ route (atHl 0xFFFF#16).bootActive st) ∧
    (∃ t, exec .jpHl R0 = .next t) ∧ ∀ st, ¬ Instr.StoresTo .jpHl R0 st := by
  refine ⟨⟨_, rfl⟩, fun st h => ?_, ⟨_, rfl⟩, jpHl_stores_nothing R0⟩
  rw [ldAtHlD8_stores_to_hl _ _ _ h]
  decide

theorem witness_UnmappedAddressesExactly :
    R0.peek 0xFEA0#16 = none ∧ R0.peek 0xFEFF#16 = none ∧ R0.peek 0xFF00#16 = none ∧ R0.peek 0xFF7F#16 = none := by decide

/-- Both ends of the window. -/
theorem witness_DisplayRegisterWindow :
    0xFF00 ≤ (0xFF00#16).toNat ∧ (0xFF00#16).toNat ≤ 0xFF7F ∧
    0xFF00#16 ∉ [0xFF40#16, 0xFF42#16, 0xFF43#16, 0xFF44#16, 0xFF47#16] ∧
    0xFF00 ≤ (0xFF7F#16).toNat ∧ (0xFF7F#16).toNat ≤ 0xFF7F ∧
    0xFF7F#16 ∉ [0xFF40#16, 0xFF42#16, 0xFF43#16, 0xFF44#16, 0xFF47#16] := by
  refine ⟨by decide, by decide, by decide, by decide, by decide, by decide⟩

theorem witness_EchoMirrorsWorkRam : 0xE000 ≤ (0xE000#16).toNat ∧ (0xE000#16).toNat ≤ 0xFDFF ∧
    0xE000 ≤ (0xFDFF#16).toNat ∧ (0xFDFF#16).toNat ≤ 0xFDFF := by decide

theorem witness_ReadAfterWrite :
    R0.mem.wf = true ∧ (∃ t, R0.poke 0x0000#16 0x5A#8 = some t) ∧ (∃ t, R0.poke 0xFFFF#16 0x5A#8 = some t) ∧
    (∃ t, R0.poke 0xFF44#16 0x5A#8 = some t) ∧ 0xFFFF#16 ≠ 0xFF44#16 ∧
    route R0.bootActive 0x0000#16 ≠ route R0.bootActive 0xFFFF#16 :=
  ⟨rfl, ⟨_, rfl⟩, ⟨_, rfl⟩, ⟨_, rfl⟩, by decide, by decide⟩

/-- An address where both bytes are mapped and neither is LY, the one below LY, LY, and one below an unmapped byte. -/
theorem witness_WordRoundTrip : R0.mem.wf = true ∧ R0.peek 0xFFFF#16 ≠ none ∧ R0.peek (0xFFFF#16 + 1) ≠ none ∧
    0xFFFF#16 ≠ 0xFF44#16 ∧ 0xFFFF#16 + 1 ≠ 0xFF44#16 ∧ 0xFF43#16 + 1 = 0xFF44#16 ∧ R0.peek 0xFF43#16 ≠ none ∧
    R0.peek (0xFF44#16 + 1) = none ∧ R0.peek (0xFE9F#16 + 1) = none := by decide

theorem witness_BootOverlayHidesRom :
    { R0 with bootActive := true }.mem.wf = true ∧ { R0 with bootActive := true }.bootActive = true ∧
    (∃ t, { R0 with bootActive := true }.poke 0x00FF#16 0x5A#8 = some t) ∧ (0x00FF#16).toNat ≤ 0x00FF ∧
    (∃ t, { R0 with bootActive := true }.poke 0x0100#16 0x5A#8 = some t) ∧ 0x0100 ≤ (0x0100#16).toNat :=
  ⟨rfl, rfl, ⟨_, rfl⟩, by decide, ⟨_, rfl⟩, by decide⟩

theorem peek_oam (op : Byte) (pc addr : Word) (i k : Nat) (h : route false addr = .storage .oam i) (hk : 0xFE00 + i = k) :
    (bootUnmapCheck (atPc pc [(k, op)])).peek addr = some op := by
  have hb : (bootUnmapCheck (atPc pc [(k, op)])).bootActive = false := by simp [atPc, State.reset]
  simp only [State.peek, hb, h]
  simp [Memory.read, Sparse.get, Region.base, hk, atPc]

theorem peek_hole (m : Memory) (pc addr : Word) (h : route false addr = .unmapped) :
    (bootUnmapCheck (atPc pc m)).peek addr = none := by
  rw [State.peek_eq_none_iff]
  simpa [atPc, State.reset] using h

/-- Every opcode can stand where its first immediate byte cannot be fetched. -/
theorem witness_ImmediateFetchStops_first (op : Byte) :
    (atPc 0xFE9F#16 [(0xFE9F, op)]).Running ∧ (bootUnmapCheck (atPc 0xFE9F#16 [(0xFE9F, op)])).peek 0xFE9F#16 = some op ∧
    (bootUnmapCheck (atPc 0xFE9F#16 [(0xFE9F, op)])).peek (0xFE9F#16 + 1 + BitVec.ofNat 16 0) = none :=
  ⟨⟨rfl, rfl⟩, peek_oam op _ _ 159 _ (by decide) rfl, peek_hole _ _ _ (by decide)⟩

/-- Every opcode can stand where its second immediate byte cannot be fetched and the first can. -/
theorem witness_ImmediateFetchStops_second (op : Byte) :
    (atPc 0xFE9E#16 [(0xFE9E, op)]).Running ∧ (bootUnmapCheck (atPc 0xFE9E#16 [(0xFE9E, op)])).peek 0xFE9E#16 = some op ∧
    (∀ j, j < 1 → (bootUnmapCheck (atPc 0xFE9E#16 [(0xFE9E, op)])).peek (0xFE9E#16 + 1 + BitVec.ofNat 16 j) ≠ none) ∧
    (bootUnmapCheck (atPc 0xFE9E#16 [(0xFE9E, op)])).peek (0xFE9E#16 + 1 + BitVec.ofNat 16 1) = none := by
  refine ⟨⟨rfl, rfl⟩, peek_oam op _ _ 158 _ (by decide) rfl, fun j hj => ?_, peek_hole _ _ _ (by decide)⟩
  obtain rfl : j = 0 := by omega
  rw [Ne, State.peek_eq_none_iff, show (bootUnmapCheck (atPc 0xFE9E#16 [(0xFE9E, op)])).bootActive = false by rfl]
  decide

theorem witness_LoadBetweenOperands :
    ¬((7#3 : BitVec 3) = 6#3 ∧ (6#3 : BitVec 3) = 6#3) ∧ (atHl 0xFFFF#16).r8 (.ofField 6#3) = some 0x00#8 ∧
    (∃ t, (atHl 0xFFFF#16).setR8 (.ofField 7#3) 0x00#8 = some t) ∧ (atHl 0xFEA0#16).r8 (.ofField 6#3) = none ∧
    ¬((6#3 : BitVec 3) = 6#3 ∧ (0#3 : BitVec 3) = 6#3) ∧ (atHl 0xFEA0#16).r8 (.ofField 0#3) = some 0x00#8 ∧
    (atHl 0xFEA0#16).setR8 (.ofField 6#3) 0x00#8 = none :=
  ⟨by decide, rfl, ⟨_, rfl⟩, rfl, by decide, rfl, rfl⟩

theorem witness_LoadImmediateByte : (∃ t, (atHl 0xFF80#16).setR8 (.ofField 6#3) 0xFF#8 = some t) ∧
    (∃ t, R0.setR8 (.ofField 7#3) 0x00#8 = some t) ∧ (atHl 0xFF7F#16).setR8 (.ofField 6#3) 0xFF#8 = none :=
  ⟨⟨_, rfl⟩, ⟨_, rfl⟩, rfl⟩

theorem witness_AccumulatorThroughPair :
    R0.peek R0.bc = some 0x00#8 ∧ R0.peek R0.de = some 0x00#8 ∧ (∃ t, R0.poke R0.bc R0.a = some t) ∧
    (∃ t, R0.poke R0.de R0.a = some t) ∧ (R0.setBc 0xFEFF#16).peek (R0.setBc 0xFEFF#16).bc = none ∧
    (R0.setDe 0xFF00#16).peek (R0.setDe 0xFF00#16).de = none :=
  ⟨rfl, rfl, ⟨_, rfl⟩, ⟨_, rfl⟩, rfl, rfl⟩

theorem witness_AccumulatorThroughHlIncDec :
    (atHl 0xFFFF#16).peek (atHl 0xFFFF#16).hl = some 0x00#8 ∧ (atHl 0x0000#16).peek (atHl 0x0000#16).hl = some 0x00#8 ∧
    (∃ t, (atHl 0xFFFF#16).poke (atHl 0xFFFF#16).hl (atHl 0xFFFF#16).a = some t) ∧
    (atHl 0xFEA0#16).peek (atHl 0xFEA0#16).hl = none :=
  ⟨rfl, rfl, ⟨_, rfl⟩, rfl⟩

theorem witness_AccumulatorAbsoluteAndHighPage :
    R0.peek 0xFFFF#16 = some 0x00#8 ∧ (∃ t, R0.poke 0x0000#16 R0.a = some t) ∧ R0.peek 0xFEFF#16 = none ∧
    R0.peek (0xFF00#16 + (0x80#8).setWidth 16) = some 0x00#8 ∧
    (∃ t, R0.poke (0xFF00#16 + (0xFF#8).setWidth 16) R0.a = some t) ∧
    R0.peek (0xFF00#16 + (0x7F#8).setWidth 16) = none ∧
    { R0 with c := 0x44#8 }.peek (0xFF00#16 + (0x44#8).setWidth 16) = some 0x00#8 ∧
    (∃ t, { R0 with c := 0x44#8 }.poke (0xFF00#16 + (0x44#8).setWidth 16) 0x00#8 = some t) ∧
    R0.peek (0xFF00#16 + R0.c.setWidth 16) = none :=
  ⟨rfl, ⟨_, rfl⟩, rfl, rfl, ⟨_, rfl⟩, rfl, rfl, ⟨_, rfl⟩, rfl⟩

theorem witness_SixteenBitLoads :
    (∃ t u, R0.poke 0xFFFF#16 (lowByte R0.sp) = some t ∧ t.poke (0xFFFF#16 + 1) (highByte R0.sp) = some u) ∧
    R0.poke 0xFF7F#16 (lowByte R0.sp) = none ∧
    ∃ t, R0.poke 0xFE9F#16 (lowByte R0.sp) = some t ∧ t.poke (0xFE9F#16 + 1) (highByte R0.sp) = none :=
  ⟨⟨_, _, rfl, rfl⟩, rfl, _, rfl, rfl⟩

/-- SP wraps between the two bytes; the first byte is unmapped; the second is. -/
theorem witness_PushPair (p : Rp2) :
    (∃ t u, { atSp 0x0001#16 with sp := 0x0001#16 - 1 }.poke (0x0001#16 - 1) (highByte ((atSp 0x0001#16).rp2 p)) = some t ∧
      { t with sp := 0x0001#16 - 2 }.poke (0x0001#16 - 2) (lowByte ((atSp 0x0001#16).rp2 p)) = some u) ∧
    { atSp 0xFEA1#16 with sp := 0xFEA1#16 - 1 }.poke (0xFEA1#16 - 1) (highByte ((atSp 0xFEA1#16).rp2 p)) = none ∧
    ∃ t, { atSp 0xFF41#16 with sp := 0xFF41#16 - 1 }.poke (0xFF41#16 - 1) (highByte ((atSp 0xFF41#16).rp2 p)) = some t ∧
      { t with sp := 0xFF41#16 - 2 }.poke (0xFF41#16 - 2) (lowByte ((atSp 0xFF41#16).rp2 p)) = none :=
  ⟨⟨_, _, rfl, rfl⟩, rfl, _, rfl, rfl⟩

theorem witness_PopPair :
    (atSp 0xFFFF#16).peek 0xFFFF#16 = some 0x00#8 ∧ (atSp 0xFFFF#16).peek (0xFFFF#16 + 1) = some 0x00#8 ∧
    (atSp 0xFEFF#16).peek 0xFEFF#16 = none ∧ (atSp 0xFE9F#16).peek 0xFE9F#16 = some 0x00#8 ∧
    (atSp 0xFE9F#16).peek (0xFE9F#16 + 1) = none := by decide

/-- The stack of `PushThenPop` and of `CallThenReturn`: SP wraps. -/
theorem witness_PushThenPop : (atSp 0x0001#16).mem.wf = true ∧ (atSp 0x0001#16).peek (0x0001#16 - 1) ≠ none ∧
    (atSp 0x0001#16).peek (0x0001#16 - 2) ≠ none ∧ 0x0001#16 - 1 ≠ 0xFF44#16 ∧ 0x0001#16 - 2 ≠ 0xFF44#16 := by decide

theorem witness_CallThenReturn : (atSp 0x0000#16).mem.wf = true ∧ (atSp 0x0000#16).peek (0x0000#16 - 1) ≠ none ∧
    (atSp 0x0000#16).peek (0x0000#16 - 2) ≠ none ∧ 0x0000#16 - 1 ≠ 0xFF44#16 ∧ 0x0000#16 - 2 ≠ 0xFF44#16 := by decide

/-- The `r8` operands of `AddAndAddWithCarry`, `SubtractAndCompare`, `LogicalOperations`, `IncrementAndDecrement`,
`RotatesOfExtendedTable`, `ShiftsAndSwap` and `BitTestResetSet`: a register, a mapped byte and an unmapped one. -/
theorem witness_r8_operands : R0.r8 (.ofField 7#3) = some 0x00#8 ∧ (atHl 0xFF44#16).r8 (.ofField 6#3) = some 0x00#8 ∧
    (atHl 0xFFFF#16).r8 (.ofField 6#3) = some 0x00#8 ∧ (atHl 0xFF7F#16).r8 (.ofField 6#3) = none := by decide

/-- The operation fields of `RotatesOfExtendedTable` and of `ShiftsAndSwap`, at their ends. -/
theorem witness_rotate_fields : (0#3).toNat < 4 ∧ (3#3).toNat < 4 ∧ 4 ≤ (4#3).toNat ∧ 4 ≤ (7#3).toNat := by decide

theorem witness_AluOp_hypotheses : (AluOp.sub = .sub ∨ AluOp.sub = .sbc ∨ AluOp.sub = .cp) ∧
    (AluOp.xor = .and ∨ AluOp.xor = .xor ∨ AluOp.xor = .or) := by decide

theorem witness_DecimalAdjustGivesDecimalSum : 99 < 100 ∧ 99 < 100 ∧ { R0 with a := 0x99#8 }.a = bcd 99 := by decide

/-- A true and a false condition, for `Jumps`, `Calls` and `Returns`. -/
theorem witness_conditions : R0.holds (.ofField 0#2) = true ∧ R0.holds (.ofField 3#2) = false := by decide

theorem witness_Calls :
    Instr.Calls (.callA16 0xC000#16) 0xC000#16 (atSp 0x0001#16) ∧ Instr.Calls (.callNzA16 0xC000#16) 0xC000#16 (atSp 0x0001#16) ∧
    Instr.Calls .rst38 0x0038#16 (atSp 0x0001#16) ∧
    (∃ t u, { atSp 0x0001#16 with sp := 0x0001#16 - 1 }.poke (0x0001#16 - 1) (highByte R0.pc) = some t ∧
      { t with sp := 0x0001#16 - 2 }.poke (0x0001#16 - 2) (lowByte R0.pc) = some u) ∧
    Instr.Calls .rst00 0x0000#16 (atSp 0xFEA1#16) ∧
    { atSp 0xFEA1#16 with sp := 0xFEA1#16 - 1 }.poke (0xFEA1#16 - 1) (highByte R0.pc) = none ∧
    Instr.Calls .rst00 0x0000#16 (atSp 0xFF41#16) ∧
    ∃ t, { atSp 0xFF41#16 with sp := 0xFF41#16 - 1 }.poke (0xFF41#16 - 1) (highByte R0.pc) = some t ∧
      { t with sp := 0xFF41#16 - 2 }.poke (0xFF41#16 - 2) (lowByte R0.pc) = none :=
  ⟨.inl rfl, .inr (.inl ⟨0#2, rfl, rfl⟩), .inr (.inr ⟨7#3, rfl, rfl⟩), ⟨_, _, rfl, rfl⟩, .inr (.inr ⟨0#3, rfl, rfl⟩), rfl,
    .inr (.inr ⟨0#3, rfl, rfl⟩), _, rfl, rfl⟩

theorem witness_Returns :
    Instr.Returns .ret (atSp 0xFFFF#16) ∧ Instr.Returns .retNz (atSp 0xFFFF#16) ∧
    (atSp 0xFFFF#16).peek 0xFFFF#16 = some 0x00#8 ∧ (atSp 0xFFFF#16).peek (0xFFFF#16 + 1) = some 0x00#8 ∧
    (Instr.Returns .ret (atSp 0xFEFF#16) ∨ Instr.ret = .reti) ∧ (atSp 0xFEFF#16).peek 0xFEFF#16 = none ∧
    (Instr.Returns .reti (atSp 0xFE9F#16) ∨ Instr.reti = .reti) ∧ (atSp 0xFE9F#16).peek 0xFE9F#16 = some 0x00#8 ∧
    (atSp 0xFE9F#16).peek (0xFE9F#16 + 1) = none :=
  ⟨.inl rfl, .inr ⟨0#2, rfl, rfl⟩, rfl, rfl, .inl (.inl rfl), rfl, .inr rfl, rfl, rfl⟩

theorem witness_IllegalOpcodesStop : (atPc 0xFFFF#16 [(0xFFFF, 0xD3#8)]).Running ∧
    (bootUnmapCheck (atPc 0xFFFF#16 [(0xFFFF, 0xD3#8)])).peek 0xFFFF#16 = some 0xD3#8 := ⟨⟨rfl, rfl⟩, by decide⟩

/-- Both sides of each mode's budget. -/
theorem witness_AdvanceCompletesOneMode : Display.reset.modeClock + 79 < 80 ∧ 80 ≤ Display.reset.modeClock + 80 ∧
    171 + 1 = 172 ∧ 203 + 1 = 204 ∧ 455 + 1 = 456 := by decide

theorem witness_FrameSequence : Display.reset.mode = .oamScan ∧ Display.reset.scanline = 0 ∧ Display.reset.modeClock = 0 ∧
    16301 * 4 < 65208 := by decide

theorem witness_RenderedScanlineClosedForm : Display.reset.fb.wf = true ∧ 159 < 160 ∧ 143 ≠ Display.reset.scanline := by
  decide

/-- Two memories that differ outside VRAM. -/
theorem witness_RendererReadsOnlyVideoRam (addr : Nat) (_ : 0x8000 ≤ addr) (h : addr ≤ 0x9FFF) :
    Memory.read [] addr = Memory.read [(0xFE00, 0x01#8)] addr := by
  simp only [Memory.read, Sparse.get, if_neg (show ¬(0xFE00 = addr) by omega)]

/-- A state in VBlank that meets the invariant and whose step completes. -/
theorem witness_InvariantKeptByStep :
    State.Inv { R0 with display := { Display.reset with mode := .vBlank, scanline := 153, modeClock := 455 } } ∧
    ∃ t, stepWith Config.standard
      { R0 with display := { Display.reset with mode := .vBlank, scanline := 153, modeClock := 455 } } = .next t :=
  ⟨⟨rfl, rfl, ⟨by decide, by decide, by decide⟩, rfl, rfl⟩, _, rfl⟩

theorem witness_ResetLoadsImages :
    ({} : ResetArgs).initMem.wf = true ∧ 32768 < (List.replicate 32769 0x00#8).length ∧
    ({ boot := some [] } : ResetArgs).rom.length ≤ 32768 ∧ ([] : List Byte).length ≠ 256 ∧
    ({} : ResetArgs).boot = none ∧ (List.replicate 32768 0x76#8).length ≤ 32768 ∧
    (List.replicate 256 0x00#8).length = 256 ∧ 0 < (List.replicate 32768 0x76#8).length ∧
    159 < Region.oam.size ∧ Region.oam ≠ .boot ∧ ¬(Region.oam = .rom ∧ 159 < ({} : ResetArgs).rom.length) ∧
    0 < Region.rom.size ∧ Region.rom ≠ .boot ∧ ¬(Region.rom = .rom ∧ 0 < ({} : ResetArgs).rom.length) :=
  ⟨rfl, by rw [List.length_replicate]; decide, by decide, by decide, rfl, Nat.le_of_eq List.length_replicate,
    List.length_replicate, Nat.lt_of_lt_of_eq (by decide) List.length_replicate.symm, by decide, by decide, by decide, by decide,
    by decide, by decide⟩


end Sys2Proof.Tests
end

/-! # What an operation that answers a next state has done

One equivalence per shared operation: it answers a next state exactly if each of its accesses is answered and what follows
them answers that state. -/

namespace Sys2Proof.Machine

section

variable {s t : State}

/-! ## Accesses and fetches -/

theorem readByte_next_iff {k : AccessKind} {addr : Word} {f : Byte → Out} :
    readByte k addr s f = .next t ↔ ∃ v, s.peek addr = some v ∧ f v = .next t := by
  cases h : s.peek addr with
  | none => simp [readByte_none h, raise]
  | some v => simp [readByte_some h]

theorem writeByte_next_iff {addr : Word} {v : Byte} {f : State → Out} :
    writeByte addr v s f = .next t ↔ ∃ u, s.poke addr v = some u ∧ f u = .next t := by
  cases h : s.poke addr v with
  | none => simp [writeByte_none h, raise]
  | some u => simp [writeByte_some h]

theorem readR8_next_iff {z : R8} {f : Byte → Out} :
    readR8 z s f = .next t ↔ ∃ v, s.r8 z = some v ∧ f v = .next t := by
  cases h : s.r8 z with
  | none => simp [readR8_none h, raise]
  | some v => simp [readR8_some h]

theorem writeR8_next_iff {z : R8} {v : Byte} {f : State → Out} :
    writeR8 z v s f = .next t ↔ ∃ u, s.setR8 z v = some u ∧ f u = .next t := by
  cases h : s.setR8 z v with
  | none => simp [writeR8_none h, raise]
  | some u => simp [writeR8_some h]

theorem writeWord_next_iff {addr v : Word} {f : State → Out} :
    writeWord addr v s f = .next t ↔
      ∃ u w, s.poke addr (lowByte v) = some u ∧ u.poke (addr + 1) (highByte v) = some w ∧ f w = .next t := by
  simp [writeWord, writeByte_next_iff]

theorem push_next_iff {v : Word} {f : State → Out} :
    push v s f = .next t ↔
      ∃ u w, { s with sp := s.sp - 1 }.poke (s.sp - 1) (highByte v) = some u ∧
        { u with sp := u.sp - 1 }.poke (u.sp - 1) (lowByte v) = some w ∧ f w = .next t := by
  simp [push, writeByte_next_iff]

theorem pop_next_iff {f : Word → State → Out} :
    pop s f = .next t ↔
      ∃ lo hi, s.peek s.sp = some lo ∧ s.peek (s.sp + 1) = some hi ∧
        f (joinBytes hi lo) { s with sp := s.sp + 1 + 1 } = .next t := by
  simp [pop, readByte_next_iff]

theorem fetch8_next_iff {f : Byte → State → Out} :
    fetch8 s f = .next t ↔ ∃ v, s.peek s.pc = some v ∧ f v { s with pc := s.pc + 1 } = .next t :=
  readByte_next_iff

theorem fetch16_next_iff {f : Word → State → Out} :
    fetch16 s f = .next t ↔
      ∃ lo hi, s.peek s.pc = some lo ∧ s.peek (s.pc + 1) = some hi ∧
        f (joinBytes hi lo) { s with pc := s.pc + 1 + 1 } = .next t := by
  simp [fetch16, fetch8_next_iff]

/-! ## The families' shared forms -/

theorem loadR8_next_iff {dst src : R8} :
    loadR8 dst src s = .next t ↔ ∃ v, s.r8 src = some v ∧ s.setR8 dst v = some t := by
  simp [loadR8, readR8_next_iff, writeR8_next_iff]

theorem loadImm_next_iff {dst : R8} {v : Byte} : loadImm dst v s = .next t ↔ s.setR8 dst v = some t := by
  simp [loadImm, writeR8_next_iff]

theorem modifyR8_next_iff {g : Byte → Flags → Byte × Flags} {z : R8} :
    modifyR8 g z s = .next t ↔
      ∃ v, s.r8 z = some v ∧ { s with flags := (g v s.flags).2 }.setR8 z (g v s.flags).1 = some t := by
  simp [modifyR8, readR8_next_iff, writeR8_next_iff]

theorem aluR8_next_iff {op : AluOp} {z : R8} :
    aluR8 op z s = .next t ↔ ∃ v, s.r8 z = some v ∧ aluWith op v s = t := by
  simp [aluR8, readR8_next_iff]

theorem testBitR8_next_iff {n : Nat} {z : R8} :
    testBitR8 n z s = .next t ↔ ∃ v, s.r8 z = some v ∧ { s with flags := testBitFlags n v s.flags } = t := by
  simp [testBitR8, readR8_next_iff]

theorem loadA_next_iff {addr : Word} :
    loadA addr s = .next t ↔ ∃ v, s.peek addr = some v ∧ { s with a := v } = t := by
  simp [loadA, readByte_next_iff]

theorem storeA_next_iff {addr : Word} : storeA addr s = .next t ↔ s.poke addr s.a = some t := by
  simp [storeA, writeByte_next_iff]

theorem loadAThen_next_iff {hl : Word} :
    loadAThen hl s = .next t ↔ ∃ v, s.peek s.hl = some v ∧ { s with a := v }.setHl hl = t := by
  simp [loadAThen, readByte_next_iff]

theorem storeAThen_next_iff {hl : Word} :
    storeAThen hl s = .next t ↔ ∃ u, s.poke s.hl s.a = some u ∧ u.setHl hl = t := by
  simp [storeAThen, writeByte_next_iff]

theorem popPair_next_iff {p : Rp2} :
    popPair p s = .next t ↔
      ∃ lo hi, s.peek s.sp = some lo ∧ s.peek (s.sp + 1) = some hi ∧
        { s with sp := s.sp + 1 + 1 }.setRp2 p (joinBytes hi lo) = t := by
  simp [popPair, pop_next_iff]

theorem returnFrom_next_iff :
    returnFrom s = .next t ↔
      ∃ lo hi, s.peek s.sp = some lo ∧ s.peek (s.sp + 1) = some hi ∧
        { s with sp := s.sp + 1 + 1, pc := joinBytes hi lo } = t := by
  simp [returnFrom, pop_next_iff]

theorem onCond_next_iff {i : Cond} {f : State → Out} :
    onCond i f s = .next t ↔
      (s.holds i = true ∧ f s = .next t) ∨ (s.holds i = false ∧ { s with notTaken := true } = t) := by
  cases h : s.holds i <;> simp [onCond, h]

/-! ## A step (spec/40_step_and_dispatch.md R100 to R104) -/

theorem settle_next_iff {p : CostPair} {o : Out} :
    settle p o = .next t ↔ ∃ u, o = .next u ∧ tick (selectCost p u) u = t := by
  cases o <;> simp [settle]

theorem enter_next_iff {cfg : Config} {escaped : Bool} {key : Byte} {opAddr instrAddr : Word} {handler : State → Out} :
    enter cfg escaped key opAddr instrAddr s handler = .next t ↔
      cfg.impl escaped key = true ∧
        ∃ u, handler s = .next u ∧ tick (selectCost (cfg.cost escaped key) u) u = t := by
  cases h : cfg.impl escaped key with
  | false => simp [enter_absent h, raise]
  | true => simp [enter_present h, settle_next_iff]

/-- A running step that completes has fetched an instruction, which moved nothing but `pc`; the instruction has completed;
and the cost of its table entry has been charged. -/
theorem runInstruction_next {cfg : Config} (h : runInstruction cfg s = .next t) :
    ∃ (i : Instr) (pc : Word) (escaped : Bool) (key : Byte) (u : State),
      cfg.impl escaped key = true ∧ exec i { s with pc := pc } = .next u ∧
        tick (selectCost (cfg.cost escaped key) u) u = t := by
  simp only [runInstruction, fetch8_next_iff] at h
  obtain ⟨op, -, h⟩ := h
  cases hop : primary op with
  | escape =>
    simp only [hop] at h
    obtain ⟨key, -, h⟩ := fetch8_next_iff.mp h
    obtain ⟨himpl, u, hexec, htick⟩ := enter_next_iff.mp h
    exact ⟨_, _, _, _, u, himpl, hexec, htick⟩
  | plain i =>
    simp only [hop] at h
    obtain ⟨himpl, u, hexec, htick⟩ := enter_next_iff.mp h
    exact ⟨_, _, _, _, u, himpl, hexec, htick⟩
  | imm8 f =>
    simp only [hop] at h
    obtain ⟨himpl, u, hfetch, htick⟩ := enter_next_iff.mp h
    obtain ⟨v, -, hexec⟩ := fetch8_next_iff.mp hfetch
    exact ⟨_, _, _, _, u, himpl, hexec, htick⟩
  | imm16 f =>
    simp only [hop] at h
    obtain ⟨himpl, u, hfetch, htick⟩ := enter_next_iff.mp h
    obtain ⟨lo, hi, -, -, hexec⟩ := fetch16_next_iff.mp hfetch
    exact ⟨_, _, _, _, u, himpl, hexec, htick⟩

/-- All a step that answers a next state can do: count one cycle while halted, or complete an instruction. -/
theorem stepWith_next_cases {cfg : Config} (h : stepWith cfg s = .next t) :
    (s.fault = none ∧ s.halted = true ∧ tick 4#8 (bootUnmapCheck s) = t) ∨
    (s.Running ∧ ∃ (i : Instr) (pc : Word) (escaped : Bool) (key : Byte) (u : State),
      cfg.impl escaped key = true ∧ exec i { bootUnmapCheck s with pc := pc } = .next u ∧
        tick (selectCost (cfg.cost escaped key) u) u = t) := by
  cases hf : s.fault with
  | some c => simp [stepWith_stopped hf] at h
  | none =>
    cases hh : s.halted with
    | true =>
      rw [stepWith_halted hf hh] at h
      exact .inl ⟨rfl, rfl, Host.Outcome.next.inj h⟩
    | false =>
      rw [stepWith_running hf hh] at h
      exact .inr ⟨⟨hf, hh⟩, runInstruction_next h⟩

end

end Sys2Proof.Machine

/-! # The blocks of the opcode map

Every instruction is a place of one block of spec/30_encoding.md R90 to R95, since each is decoded from its own bytes. A
statement about all instructions is proved block by block: `cases i.block`. -/

namespace Sys2Proof

open Sys2Proof.Machine

/-- The instruction stands in one of the blocks of the opcode map, at a place named by the block's fields. -/
inductive Instr.Block : Instr → Prop
  | nop : Block .nop
  | ldAtA16Sp (t : Word) : Block (.ldAtA16Sp t)
  | stop (v : Byte) : Block (.stop v)
  | jrE8 (e : Byte) : Block (.jrE8 e)
  | jr (cc : Cond) (e : Byte) : Block (.jr cc e)
  | addHl (p : Rp) : Block (.addHl p)
  | ldPair (p : Rp) (v : Word) : Block (.ldPair p v)
  | loadA (p : BitVec 2) : Block (.loadA p)
  | storeA (p : BitVec 2) : Block (.storeA p)
  | incPair (p : Rp) : Block (.incPair p)
  | decPair (p : Rp) : Block (.decPair p)
  | inc (z : R8) : Block (.inc z)
  | dec (z : R8) : Block (.dec z)
  | ldImm (z : R8) (v : Byte) : Block (.ldImm z v)
  | accumulator (y : BitVec 3) : Block (.accumulator y)
  | ld (dst src : R8) (h : ¬(dst = .atHl ∧ src = .atHl)) : Block (.ld dst src)
  | halt : Block .halt
  | alu (op : AluOp) (z : R8) : Block (.alu op z)
  | retIf (cc : Cond) : Block (.retIf cc)
  | ldhAtA8A (n : Byte) : Block (.ldhAtA8A n)
  | addSpE8 (e : Byte) : Block (.addSpE8 e)
  | ldhAAtA8 (n : Byte) : Block (.ldhAAtA8 n)
  | ldHlSpE8 (e : Byte) : Block (.ldHlSpE8 e)
  | pop (p : Rp2) : Block (.pop p)
  | ret : Block .ret
  | reti : Block .reti
  | jpHl : Block .jpHl
  | ldSpHl : Block .ldSpHl
  | jp (cc : Cond) (t : Word) : Block (.jp cc t)
  | ldAtCA : Block .ldAtCA
  | ldAtA16A (t : Word) : Block (.ldAtA16A t)
  | ldAAtC : Block .ldAAtC
  | ldAAtA16 (t : Word) : Block (.ldAAtA16 t)
  | jpA16 (t : Word) : Block (.jpA16 t)
  | di : Block .di
  | ei : Block .ei
  | call (cc : Cond) (t : Word) : Block (.call cc t)
  | push (p : Rp2) : Block (.push p)
  | callA16 (t : Word) : Block (.callA16 t)
  | aluImm (op : AluOp) (v : Byte) : Block (.aluImm op v)
  | rst (y : BitVec 3) : Block (.rst y)
  | illegal {i : Instr} (h : i.wellFormed = false) : Block i
  | rot (op : RotOp) (z : R8) : Block (.rot op z)
  | testBit (y : BitVec 3) (z : R8) : Block (.testBit y z)
  | resetBit (y : BitVec 3) (z : R8) : Block (.resetBit y z)
  | setBit (y : BitVec 3) (z : R8) : Block (.setBit y z)

/-- Every instruction the entry can make has the property; the escape makes none. -/
def Entry.All (P : Instr → Prop) : Entry → Prop
  | .plain i => P i
  | .imm8 f => ∀ v, P (f v)
  | .imm16 f => ∀ v, P (f v)
  | .escape => True

/-- Every value of a 2-bit field. -/
theorem forall_field2 {p : BitVec 2 → Prop} (h0 : p 0#2) (h1 : p 1#2) (h2 : p 2#2) (h3 : p 3#2) (x : BitVec 2) : p x := by
  have hx : x = 0#2 ∨ x = 1#2 ∨ x = 2#2 ∨ x = 3#2 := by
    revert x
    decide
  rcases hx with rfl | rfl | rfl | rfl <;> assumption

theorem primaryX0_block (op : Byte) : (primaryX0 op).All Instr.Block := by
  unfold primaryX0
  generalize fieldZ op = z, fieldY op = y, fieldP op = p, fieldQ op = q
  revert z
  apply forall_field3
  · revert y
    exact forall_field3 .nop .ldAtA16Sp .stop .jrE8 (.jr .nz) (.jr .z) (.jr .nc) (.jr .c)
  · cases q
    · exact .ldPair _
    · exact .addHl _
  · cases q
    · exact .storeA p
    · exact .loadA p
  · cases q
    · exact .incPair _
    · exact .decPair _
  · exact .inc _
  · exact .dec _
  · exact .ldImm _
  · exact .accumulator y

theorem primaryX3_block (op : Byte) : (primaryX3 op).All Instr.Block := by
  unfold primaryX3
  generalize fieldZ op = z, fieldY op = y, fieldP op = p, fieldQ op = q
  revert z
  apply forall_field3
  · revert y
    exact forall_field3 (.retIf .nz) (.retIf .z) (.retIf .nc) (.retIf .c) .ldhAtA8A .addSpE8 .ldhAAtA8 .ldHlSpE8
  · cases q
    · exact .pop _
    · revert p
      exact forall_field2 .ret .reti .jpHl .ldSpHl
  · revert y
    exact forall_field3 (.jp .nz) (.jp .z) (.jp .nc) (.jp .c) .ldAtCA .ldAtA16A .ldAAtC .ldAAtA16
  · revert y
    exact forall_field3 .jpA16 trivial (.illegal rfl) (.illegal rfl) (.illegal rfl) (.illegal rfl) .di .ei
  · revert y
    exact forall_field3 (.call .nz) (.call .z) (.call .nc) (.call .c) (.illegal rfl) (.illegal rfl) (.illegal rfl)
      (.illegal rfl)
  · cases q
    · exact .push _
    · revert p
      exact forall_field2 .callA16 (.illegal rfl) (.illegal rfl) (.illegal rfl)
  · exact .aluImm _
  · exact .rst y

/-- Block x = 1 (R91): HALT stands in the place of `LD (HL),(HL)`. -/
theorem ld_block (dst src : R8) : Instr.Block (.ld dst src) := by
  by_cases h : dst = .atHl ∧ src = .atHl
  · obtain ⟨rfl, rfl⟩ := h
    exact .halt
  · exact .ld dst src h

theorem primary_block (op : Byte) : (primary op).All Instr.Block := by
  have h0 := primaryX0_block op
  have h3 := primaryX3_block op
  unfold primary
  generalize fieldX op = x
  revert x
  exact forall_field2 h0 (ld_block _ _) (.alu _ _) h3

theorem extended_block (key : Byte) : (extended key).Block := by
  unfold extended
  generalize fieldX key = x
  revert x
  exact forall_field2 (.rot _ _) (.testBit _ _) (.resetBit _ _) (.setBit _ _)

/-- What is decoded was made by an entry of the primary table or stands in the extended one. -/
theorem block_of_decode {bytes rest : List Byte} {i : Instr} (h : decode bytes = .ok (i, rest)) : i.Block := by
  cases bytes with
  | nil => cases h
  | cons op bytes =>
    have hop := primary_block op
    unfold decode at h
    dsimp only at h
    generalize primary op = entry at hop h
    split at h
    · cases h
      exact hop
    · cases h
      exact hop _
    · cases h
      exact hop _
    · cases h
      exact extended_block _
    all_goals cases h

/-- The bytes of an instruction decode to it, whatever follows them (R80). -/
theorem decode_encode_append (i : Instr) (rest : List Byte) : decode (encode i ++ rest) = .ok (i, rest) := by
  cases i with
  | ldBcD16 v | ldAtA16Sp v | ldDeD16 v | ldHlD16 v | ldSpD16 v | jpNzA16 v | jpA16 v | callNzA16 v | jpZA16 v
  | callZA16 v | callA16 v | jpNcA16 v | callNcA16 v | jpCA16 v | callCA16 v | ldAtA16A v | ldAAtA16 v =>
    show Except.ok (_, rest) = _
    rw [joinBytes_high_low] <;> rfl
  | _ => rfl

theorem Instr.block (i : Instr) : i.Block := block_of_decode (decode_encode_append i [])

end Sys2Proof

/-! # The invariant is kept by every step -/

namespace Sys2Proof.Machine

section

variable {d e : Display} {mem : Memory} {n : Nat}

/-! ## The mode that completes (spec/60_exceptions.md R320 to R324) -/

theorem Display.advance_oamScan (hmode : d.mode = .oamScan) (h : 80 ≤ d.modeClock + n) :
    d.advance mem n = (d.completeOamScan, []) := by
  simp [Display.advance, hmode, Mode.budget, Nat.not_lt.mpr h, Display.completeOamScan]

theorem Display.advance_vramRead (hmode : d.mode = .vramRead) (h : 172 ≤ d.modeClock + n) :
    d.advance mem n = (d.completeVramRead mem, []) := by
  simp [Display.advance, hmode, Mode.budget, Nat.not_lt.mpr h, Display.completeVramRead, Display.renderScanline]
  exact congrArg _ (hmode ▸ Display.renderRow_modeClock d mem (d.modeClock + n))

theorem Display.advance_hBlank (hmode : d.mode = .hBlank) (h : 204 ≤ d.modeClock + n) :
    d.advance mem n = d.completeHBlank := by
  simp [Display.advance, hmode, Mode.budget, Nat.not_lt.mpr h, Display.completeHBlank]

theorem Display.advance_vBlank (hmode : d.mode = .vBlank) (h : 456 ≤ d.modeClock + n) :
    d.advance mem n = (d.completeVBlank, []) := by
  simp [Display.advance, hmode, Mode.budget, Nat.not_lt.mpr h, Display.completeVBlank]

/-! ## The timing state stays in range -/

theorem Display.Timed.scanline_lt (h : d.Timed) (hmode : d.mode ≠ .vBlank) : d.scanline < 143 :=
  Nat.not_le.mp fun hle => hmode (h.vBlank.mpr hle)

theorem Display.Timed.completeOamScan (h : d.Timed) (hmode : d.mode = .oamScan) : d.completeOamScan.Timed := by
  have hlt := h.scanline_lt (by simp [hmode])
  constructor <;> simp [Display.completeOamScan, Mode.budget] <;> omega

theorem Display.Timed.completeVramRead (h : d.Timed) (hmode : d.mode = .vramRead) :
    (d.completeVramRead mem).Timed := by
  have hlt := h.scanline_lt (by simp [hmode])
  constructor <;> simp [Display.completeVramRead, Display.renderScanline, Mode.budget] <;> omega

theorem Display.Timed.completeHBlank (h : d.Timed) (hmode : d.mode = .hBlank) : d.completeHBlank.1.Timed := by
  have hlt := h.scanline_lt (by simp [hmode])
  unfold Display.completeHBlank
  split <;> constructor <;> simp [Mode.budget] <;> omega

theorem Display.Timed.completeVBlank (h : d.Timed) (hmode : d.mode = .vBlank) : d.completeVBlank.Timed := by
  have hge := h.vBlank.mp hmode
  have hle := h.scanline
  unfold Display.completeVBlank
  split <;> constructor <;> simp [Mode.budget, hmode] <;> omega

/-- An advance of any length leaves the timing state in range. -/
theorem Display.Timed.advance (h : d.Timed) : (d.advance mem n).1.Timed := by
  by_cases hlt : d.modeClock + n < d.mode.budget
  · rw [Display.advance_of_lt hlt]
    exact ⟨h.scanline, h.vBlank, hlt⟩
  · have hge := Nat.not_lt.mp hlt
    cases hmode : d.mode <;> rw [hmode, Mode.budget] at hge
    case oamScan => rw [Display.advance_oamScan hmode hge]; exact h.completeOamScan hmode
    case vramRead => rw [Display.advance_vramRead hmode hge]; exact h.completeVramRead hmode
    case hBlank => rw [Display.advance_hBlank hmode hge]; exact h.completeHBlank hmode
    case vBlank => rw [Display.advance_vBlank hmode hge]; exact h.completeVBlank hmode

/-- Only the mode, the scanline and the mode clock are timing state. -/
theorem Display.Timed.congr (h : d.Timed) (hmode : e.mode = d.mode) (hline : e.scanline = d.scanline)
    (hclock : e.modeClock = d.modeClock) : e.Timed :=
  ⟨hline ▸ h.scanline, hmode ▸ hline ▸ h.vBlank, hmode ▸ hclock ▸ h.modeClock⟩

/-! ## The picture stays in canonical form -/

/-- A row is written only as `vramRead` completes, on a visible scanline. -/
theorem Display.Timed.wf_fb_advance (h : d.Timed) (hfb : d.fb.wf = true) : (d.advance mem n).1.fb.wf = true := by
  by_cases hlt : d.modeClock + n < d.mode.budget
  · rwa [Display.advance_of_lt hlt]
  · have hge := Nat.not_lt.mp hlt
    cases hmode : d.mode <;> rw [hmode, Mode.budget] at hge
    case oamScan => rwa [Display.advance_oamScan hmode hge]
    case vramRead =>
      rw [Display.advance_vramRead hmode hge]
      have hline := h.scanline_lt (by simp [hmode])
      exact Framebuffer.wf_setRow hfb (by omega) (Display.length_renderRow d mem)
    case hBlank =>
      rw [Display.advance_hBlank hmode hge, Display.completeHBlank]
      split <;> exact hfb
    case vBlank =>
      rw [Display.advance_vBlank hmode hge, Display.completeVBlank]
      split <;> exact hfb

end

/-! ## Steps -/

/-- Charging a cost restores the clear `notTaken` and keeps the rest of the invariant. -/
theorem inv_tick {s : State} {cost : Byte} (hmem : s.mem.wf = true) (hfb : s.display.fb.wf = true)
    (htimed : s.display.Timed) (hfault : s.fault = none) : (tick cost s).Inv :=
  ⟨hmem, htimed.wf_fb_advance hfb, htimed.advance, rfl, hfault⟩

/-- The overlay flag and `pc` are no part of the invariant. -/
theorem State.Inv.bootUnmapCheck {s : State} (h : s.Inv) : (bootUnmapCheck s).Inv := by
  rw [bootUnmapCheck_eq]
  exact ⟨h.memory, h.framebuffer, h.timed, h.notTaken, h.fault⟩

/-- An instruction that completes keeps the invariant once its cost is charged: in between only `notTaken` may break it. -/
theorem State.Inv.tick_exec {s u : State} {i : Instr} {cost : Byte} (h : s.Inv) (hexec : exec i s = .next u) :
    (tick cost u).Inv := by
  have hmem : u.mem.wf = true := closed_memory_wf.exec_next h.memory hexec
  obtain ⟨-, -, hfault, -, -, hmode, hline, hclock, hfb, -⟩ :=
    (closed_timing s).exec_next ⟨rfl, rfl, rfl, rfl, rfl, rfl, rfl, rfl, rfl, rfl⟩ hexec
  exact inv_tick hmem (hfb ▸ h.framebuffer) (h.timed.congr hmode hline hclock) (hfault.trans h.fault)

/-- Settles O56: a step either counts one cycle of a halted core or charges a completed instruction, and both keep the
invariant. -/
theorem invariantKeptByStep : Obligations.InvariantKeptByStep := by
  intro cfg s t hs hstep
  have hb := hs.bootUnmapCheck
  obtain ⟨-, -, rfl⟩ | ⟨-, i, pc, escaped, key, u, -, hexec, rfl⟩ := stepWith_next_cases hstep
  · exact inv_tick hb.memory hb.framebuffer hb.timed hb.fault
  · have hpc : State.Inv { bootUnmapCheck s with pc := pc } :=
      ⟨hb.memory, hb.framebuffer, hb.timed, hb.notTaken, hb.fault⟩
    exact hpc.tick_exec hexec

end Sys2Proof.Machine

/-! # A halted core stays halted -/

namespace Sys2Proof.Machine

/-- A run whose first step completes goes on from the state that step leaves. -/
theorem run_succ_of_step {n : Nat} {s t : State} (h : step s = .next t) :
    Host.Core.run core (n + 1) s = Host.Core.run core n t := by
  have hstep : core.step s = .next t := h
  simp [Host.Core.run, hstep]

theorem step_halted {s : State} (hfault : s.fault = none) (hhalted : s.halted = true) :
    step s = .next (tick 4#8 (bootUnmapCheck s)) :=
  stepWith_halted hfault hhalted

/-- Settles O7, by induction on the number of steps: each of them only counts a cycle, which leaves the machine halted. -/
theorem haltedMachineStaysHalted : Obligations.HaltedMachineStaysHalted := by
  unfold Obligations.HaltedMachineStaysHalted
  intro n
  induction n with
  | zero =>
    intro s hfault hhalted
    exact ⟨s, rfl, hhalted, hfault, rfl, rfl, rfl, rfl, rfl, rfl, rfl, rfl, rfl, rfl, rfl, rfl⟩
  | succ n ih =>
    intro s hfault hhalted
    obtain ⟨t, hrun, hframe⟩ := ih (tick 4#8 (bootUnmapCheck s)) (by simpa using hfault) (by simpa using hhalted)
    exact ⟨t, (run_succ_of_step (step_halted hfault hhalted)).trans hrun, by simpa using hframe⟩

end Sys2Proof.Machine

/-! # Who writes `halted` and `ime` -/

namespace Sys2Proof.Machine

/-- The two switches of the engine that an instruction may set (spec/10_state.md R27, R28). -/
def State.control (s : State) : Bool × Bool := (s.halted, s.ime)

section

variable {s t : State}

theorem State.control_poke {addr : Word} {v : Byte} (h : s.poke addr v = some t) : t.control = s.control := by
  rw [State.poke_frame h]
  rfl

theorem State.control_setR8 {z : R8} {v : Byte} (h : s.setR8 z v = some t) : t.control = s.control := by
  obtain ⟨-, hpoke⟩ | ⟨-, ht⟩ := State.setR8_cases h
  · exact State.control_poke hpoke
  · rw [ht]
    rfl

theorem State.control_setRp (p : Rp) (v : Word) : (s.setRp p v).control = s.control := by cases p <;> rfl

theorem State.control_setRp2 (p : Rp2) (v : Word) : (s.setRp2 p v).control = s.control := by cases p <;> rfl

/-! ## The shared forms keep both -/

theorem control_next {u : State} (h : (.next u : Out) = .next t) (hu : u.control = s.control) :
    t.control = s.control := by
  cases h
  exact hu

theorem control_addHl {p : Rp} (h : addHl p s = .next t) : t.control = s.control := control_next h rfl

theorem control_aluImm {op : AluOp} {v : Byte} (h : aluImm op v s = .next t) : t.control = s.control :=
  control_next h rfl

theorem control_jumpRelative {e : Byte} (h : jumpRelative e s = .next t) : t.control = s.control := control_next h rfl

theorem control_loadR8 {dst src : R8} (h : loadR8 dst src s = .next t) : t.control = s.control := by
  obtain ⟨v, -, hset⟩ := loadR8_next_iff.mp h
  exact State.control_setR8 hset

theorem control_modifyR8 {g : Byte → Flags → Byte × Flags} {z : R8} (h : modifyR8 g z s = .next t) :
    t.control = s.control := by
  obtain ⟨v, -, hset⟩ := modifyR8_next_iff.mp h
  exact (State.control_setR8 hset).trans rfl

theorem control_aluR8 {op : AluOp} {z : R8} (h : aluR8 op z s = .next t) : t.control = s.control := by
  obtain ⟨v, -, rfl⟩ := aluR8_next_iff.mp h
  rfl

theorem control_testBitR8 {n : Nat} {z : R8} (h : testBitR8 n z s = .next t) : t.control = s.control := by
  obtain ⟨v, -, rfl⟩ := testBitR8_next_iff.mp h
  rfl

theorem control_loadA {addr : Word} (h : loadA addr s = .next t) : t.control = s.control := by
  obtain ⟨v, -, rfl⟩ := loadA_next_iff.mp h
  rfl

theorem control_storeA {addr : Word} (h : storeA addr s = .next t) : t.control = s.control :=
  State.control_poke (storeA_next_iff.mp h)

theorem control_loadAThen {hl : Word} (h : loadAThen hl s = .next t) : t.control = s.control := by
  obtain ⟨v, -, rfl⟩ := loadAThen_next_iff.mp h
  rfl

theorem control_storeAThen {hl : Word} (h : storeAThen hl s = .next t) : t.control = s.control := by
  obtain ⟨u, hpoke, rfl⟩ := storeAThen_next_iff.mp h
  calc (u.setHl hl).control = u.control := rfl
    _ = s.control := State.control_poke hpoke

theorem control_writeWord {addr v : Word} (h : writeWord addr v s .next = .next t) : t.control = s.control := by
  obtain ⟨u, w, hlo, hhi, hw⟩ := writeWord_next_iff.mp h
  exact control_next hw ((State.control_poke hhi).trans (State.control_poke hlo))

theorem control_push {v : Word} {f : State → Out} (h : push v s f = .next t)
    (hf : ∀ {w}, f w = .next t → t.control = w.control) : t.control = s.control := by
  obtain ⟨u, w, hhi, hlo, hw⟩ := push_next_iff.mp h
  calc t.control = w.control := hf hw
    _ = u.control := (State.control_poke hlo).trans rfl
    _ = s.control := (State.control_poke hhi).trans rfl

theorem control_pushPair {p : Rp2} (h : pushPair p s = .next t) : t.control = s.control :=
  control_push h fun hw => control_next hw rfl

theorem control_callTo {target : Word} (h : callTo target s = .next t) : t.control = s.control :=
  control_push h fun hw => control_next hw rfl

theorem control_popPair {p : Rp2} (h : popPair p s = .next t) : t.control = s.control := by
  obtain ⟨lo, hi, -, -, rfl⟩ := popPair_next_iff.mp h
  exact State.control_setRp2 p _

theorem control_returnFrom (h : returnFrom s = .next t) : t.control = s.control := by
  obtain ⟨lo, hi, -, -, rfl⟩ := returnFrom_next_iff.mp h
  rfl

theorem control_onCond {cc : Cond} {f : State → Out} (h : onCond cc f s = .next t)
    (hf : f s = .next t → t.control = s.control) : t.control = s.control := by
  obtain ⟨-, htaken⟩ | ⟨-, rfl⟩ := onCond_next_iff.mp h
  · exact hf htaken
  · rfl

/-! ## Every instruction -/

/-- RETI alone among the transfers writes a switch (spec/44_control.md R220). -/
theorem control_reti (h : exec .reti s = .next t) : t.control = (s.halted, true) := by
  have hpop : pop s (fun a u => .next { u with pc := a, ime := true }) = .next t := h
  obtain ⟨lo, hi, -, -, ht⟩ := pop_next_iff.mp hpop
  cases ht
  rfl

theorem control_loadA_block (p : BitVec 2) (h : exec (.loadA p) s = .next t) : t.control = s.control := by
  revert p
  exact forall_field2 control_loadA control_loadA control_loadAThen control_loadAThen

theorem control_storeA_block (p : BitVec 2) (h : exec (.storeA p) s = .next t) : t.control = s.control := by
  revert p
  exact forall_field2 control_storeA control_storeA control_storeAThen control_storeAThen

theorem control_accumulator (y : BitVec 3) (h : exec (.accumulator y) s = .next t) : t.control = s.control := by
  revert y
  apply forall_field3 <;> exact fun h => control_next h rfl

theorem exec_ne_next_of_illegal {i : Instr} (hi : i.wellFormed = false) : exec i s ≠ .next t := by
  cases i with
  | illegalD3 | illegalDB | illegalDD | illegalE3 | illegalE4 | illegalEB | illegalEC | illegalED | illegalF4
  | illegalFC | illegalFD => exact nofun
  | _ => cases hi

/-- A switch changes only under the instructions that write it. -/
structure ControlFrame (i : Instr) (s t : State) : Prop where
  halted : t.halted = s.halted ∨ (i = .halt ∨ ∃ v, i = .stop v)
  ime : t.ime = s.ime ∨ (i = .di ∨ i = .ei ∨ i = .reti)

theorem ControlFrame.of_control_eq {i : Instr} (h : t.control = s.control) : ControlFrame i s t :=
  ⟨.inl (congrArg Prod.fst h), .inl (congrArg Prod.snd h)⟩

theorem exec_controlFrame {i : Instr} (h : exec i s = .next t) : ControlFrame i s t := by
  cases i.block with
  | halt => exact ⟨.inr (.inl rfl), .inl (congrArg State.ime (Host.Outcome.next.inj h)).symm⟩
  | stop v => exact ⟨.inr (.inr ⟨v, rfl⟩), .inl (congrArg State.ime (Host.Outcome.next.inj h)).symm⟩
  | di => exact ⟨.inl (congrArg State.halted (Host.Outcome.next.inj h)).symm, .inr (.inl rfl)⟩
  | ei => exact ⟨.inl (congrArg State.halted (Host.Outcome.next.inj h)).symm, .inr (.inr (.inl rfl))⟩
  | reti => exact ⟨.inl (congrArg Prod.fst (control_reti h)), .inr (.inr (.inr rfl))⟩
  | illegal hi => exact absurd h (exec_ne_next_of_illegal hi)
  | nop | addSpE8 _ | ldHlSpE8 _ | jpHl | ldSpHl | jpA16 _ | jrE8 _ => exact .of_control_eq (control_next h rfl)
  | ldAtA16Sp _ => exact .of_control_eq (control_writeWord h)
  | jr cc e => exact .of_control_eq (control_onCond (exec_jr s cc e ▸ h) control_jumpRelative)
  | jp cc a =>
    rw [exec_jp] at h
    exact .of_control_eq (control_onCond h fun htaken => control_next htaken rfl)
  | call cc a => exact .of_control_eq (control_onCond (exec_call s cc a ▸ h) control_callTo)
  | retIf cc => exact .of_control_eq (control_onCond (exec_retIf s cc ▸ h) control_returnFrom)
  | ret => exact .of_control_eq (control_returnFrom h)
  | callA16 _ => exact .of_control_eq (control_callTo h)
  | rst y => exact .of_control_eq (control_callTo (exec_rst s y ▸ h))
  | push p => exact .of_control_eq (control_pushPair (exec_push s p ▸ h))
  | pop p => exact .of_control_eq (control_popPair (exec_pop s p ▸ h))
  | addHl p => exact .of_control_eq (control_addHl (exec_addHl s p ▸ h))
  | ldPair p v => exact .of_control_eq (control_next (exec_ldPair s p v ▸ h) (State.control_setRp p _))
  | incPair p => exact .of_control_eq (control_next (exec_incPair s p ▸ h) (State.control_setRp p _))
  | decPair p => exact .of_control_eq (control_next (exec_decPair s p ▸ h) (State.control_setRp p _))
  | ldImm z v => exact .of_control_eq (State.control_setR8 (loadImm_next_iff.mp (exec_ldImm s z v ▸ h)))
  | ld dst src hne => exact .of_control_eq (control_loadR8 (exec_ld s hne ▸ h))
  | ldhAtA8A _ | ldAtCA | ldAtA16A _ => exact .of_control_eq (control_storeA h)
  | ldhAAtA8 _ | ldAAtC | ldAAtA16 _ => exact .of_control_eq (control_loadA h)
  | loadA p => exact .of_control_eq (control_loadA_block p h)
  | storeA p => exact .of_control_eq (control_storeA_block p h)
  | accumulator y => exact .of_control_eq (control_accumulator y h)
  | alu op z => exact .of_control_eq (control_aluR8 (exec_alu s op z ▸ h))
  | aluImm op v => exact .of_control_eq (control_aluImm (exec_aluImm s op v ▸ h))
  | inc z => exact .of_control_eq (control_modifyR8 (exec_inc s z ▸ h))
  | dec z => exact .of_control_eq (control_modifyR8 (exec_dec s z ▸ h))
  | rot op z => exact .of_control_eq (control_modifyR8 (exec_rot s op z ▸ h))
  | testBit y z => exact .of_control_eq (control_testBitR8 (exec_testBit s y z ▸ h))
  | resetBit y z => exact .of_control_eq (control_modifyR8 (exec_resetBit s y z ▸ h))
  | setBit y z => exact .of_control_eq (control_modifyR8 (exec_setBit s y z ▸ h))

end

/-- Settles O14: the writers by their meanings, every other instruction block by block of the opcode map. -/
theorem writersOfHaltedAndIme : Obligations.WritersOfHaltedAndIme := by
  intro i s t h
  have hframe := exec_controlFrame h
  refine ⟨?_, hframe.halted.resolve_right, ?_, ?_, hframe.ime.resolve_right⟩
  · rintro (rfl | ⟨v, rfl⟩) <;> exact (congrArg State.halted (Host.Outcome.next.inj h)).symm
  · rintro rfl
    exact (congrArg State.ime (Host.Outcome.next.inj h)).symm
  · rintro (rfl | rfl)
    · exact (congrArg State.ime (Host.Outcome.next.inj h)).symm
    · exact congrArg Prod.snd (control_reti h)

end Sys2Proof.Machine

/-! # The Address Router -/

namespace Sys2Proof.Machine

/-! ## Where an address leads (spec/20_memory.md R51 to R58) -/

/-- The address of a display register (R56). -/
def DisplayReg.addr : DisplayReg → Word
  | .lcdc => 0xFF40#16
  | .scy  => 0xFF42#16
  | .scx  => 0xFF43#16
  | .ly   => 0xFF44#16
  | .bgp  => 0xFF47#16

theorem DisplayReg.addr_bounds (r : DisplayReg) : 0xFF40 ≤ r.addr.toNat ∧ r.addr.toNat ≤ 0xFF47 := by
  cases r <;> decide

theorem DisplayReg.addr_inj {r r' : DisplayReg} (h : r.addr = r'.addr) : r = r' := by
  revert h
  cases r <;> cases r' <;> decide

theorem DisplayReg.forall_ne_addr_iff {addr : Word} :
    (∀ r : DisplayReg, addr ≠ r.addr) ↔
      addr ≠ 0xFF40#16 ∧ addr ≠ 0xFF42#16 ∧ addr ≠ 0xFF43#16 ∧ addr ≠ 0xFF44#16 ∧ addr ≠ 0xFF47#16 := by
  constructor
  · exact fun h => ⟨h .lcdc, h .scy, h .scx, h .ly, h .bgp⟩
  · rintro ⟨hlcdc, hscy, hscx, hly, hbgp⟩ (_ | _ | _ | _ | _) <;> assumption

theorem windowDest_cases (addr : Word) :
    (∃ r : DisplayReg, windowDest addr.toNat = .register r ∧ addr = r.addr) ∨
    (windowDest addr.toNat = .unmapped ∧ ∀ r : DisplayReg, addr ≠ r.addr) := by
  unfold windowDest
  split
  · exact .inl ⟨.lcdc, rfl, BitVec.eq_of_toNat_eq ‹_›⟩
  split
  · exact .inl ⟨.scy, rfl, BitVec.eq_of_toNat_eq ‹_›⟩
  split
  · exact .inl ⟨.scx, rfl, BitVec.eq_of_toNat_eq ‹_›⟩
  split
  · exact .inl ⟨.ly, rfl, BitVec.eq_of_toNat_eq ‹_›⟩
  split
  · exact .inl ⟨.bgp, rfl, BitVec.eq_of_toNat_eq ‹_›⟩
  · refine .inr ⟨rfl, DisplayReg.forall_ne_addr_iff.mpr ?_⟩
    bv_omega

/-- All a route can do. Every region begins at a multiple of 128, so an index has its address's low seven bits. -/
theorem route_cases (ba : Bool) (addr : Word) :
    (∃ r i, route ba addr = .storage r i ∧ i % 128 = addr.toNat % 128 ∧
      (addr.toNat < 0xFEA0 ∨ 0xFF7F < addr.toNat) ∧ (r = .boot → ba = true)) ∨
    (∃ r : DisplayReg, route ba addr = .register r ∧ addr = r.addr) ∨
    (route ba addr = .unmapped ∧ 0xFEA0 ≤ addr.toNat ∧ addr.toNat ≤ 0xFF7F ∧ ∀ r : DisplayReg, addr ≠ r.addr) := by
  unfold route
  dsimp only
  split
  · exact .inl ⟨_, _, rfl, rfl, by omega, fun _ => And.right ‹_›⟩
  iterate 6
    split
    · exact .inl ⟨_, _, rfl, by omega, by omega, nofun⟩
  split
  · refine .inr (.inr ⟨rfl, by omega, by omega, ?_⟩)
    rintro r rfl
    have := r.addr_bounds
    omega
  split
  · obtain ⟨r, hdest, haddr⟩ | ⟨hdest, haddr⟩ := windowDest_cases addr
    · exact .inr (.inl ⟨r, hdest, haddr⟩)
    · exact .inr (.inr ⟨hdest, by omega, by omega, haddr⟩)
  · exact .inl ⟨_, _, rfl, by omega, by omega, nofun⟩

theorem route_eq_unmapped_iff {ba : Bool} {addr : Word} :
    route ba addr = .unmapped ↔
      0xFEA0 ≤ addr.toNat ∧ addr.toNat ≤ 0xFF7F ∧ ∀ r : DisplayReg, addr ≠ r.addr := by
  obtain ⟨r, i, hdest, -, hrange, -⟩ | ⟨r, hdest, haddr⟩ | ⟨hdest, hrange⟩ := route_cases ba addr
  · simp only [hdest, reduceCtorEq, false_iff, not_and]
    omega
  · simp only [hdest, reduceCtorEq, false_iff]
    exact fun h => h.2.2 r haddr
  · simp only [hdest, true_iff]
    exact hrange

/-- An address leads to a display register exactly if it is that register's. -/
theorem route_eq_register_iff {ba : Bool} {addr : Word} {r : DisplayReg} :
    route ba addr = .register r ↔ addr = r.addr := by
  have hbounds := r.addr_bounds
  obtain ⟨r', i, hdest, -, hrange, -⟩ | ⟨r', hdest, rfl⟩ | ⟨hdest, -, -, hne⟩ := route_cases ba addr
  · simp only [hdest, reduceCtorEq, false_iff]
    rintro rfl
    omega
  · simp only [hdest, Dest.register.injEq]
    exact ⟨congrArg _, DisplayReg.addr_inj⟩
  · simp [hdest, hne r]

@[simp] theorem route_displayReg (ba : Bool) (r : DisplayReg) : route ba r.addr = .register r :=
  route_eq_register_iff.mpr rfl

/-- Two addresses of one mapped byte have the same low seven bits. -/
theorem toNat_mod_eq_of_route_eq {ba : Bool} {addr other : Word} (h : route ba addr = route ba other)
    (hmapped : route ba addr ≠ .unmapped) : addr.toNat % 128 = other.toNat % 128 := by
  obtain ⟨r, i, hdest, hmod, -⟩ | ⟨r, hdest, rfl⟩ | ⟨hdest, -⟩ := route_cases ba addr
  · obtain ⟨r', i', hdest', hmod', -⟩ | ⟨r', hdest', -⟩ | ⟨hdest', -⟩ := route_cases ba other
    · have hi : r = r' ∧ i = i' := by simpa [hdest, hdest'] using h
      omega
    · simp [hdest, hdest'] at h
    · simp [hdest, hdest'] at h
  · rw [route_eq_register_iff.mp (h.symm.trans hdest)]
  · exact absurd hdest hmapped

/-- A mapped byte and the byte after it are two bytes, 0xFFFF and 0x0000 included. -/
theorem route_succ_ne {ba : Bool} {addr : Word} (hmapped : route ba addr ≠ .unmapped) :
    route ba addr ≠ route ba (addr + 1) := by
  intro h
  have hmod := toNat_mod_eq_of_route_eq h hmapped
  have hadd : (addr + 1).toNat = (addr.toNat + 1) % 65536 := BitVec.toNat_add ..
  omega

/-- The overlay covers 0x0000-0x00FF alone (R52). -/
theorem route_congr_of_le {ba ba' : Bool} {addr : Word} (h : 0x0100 ≤ addr.toNat) :
    route ba addr = route ba' addr := by
  simp [route, Nat.not_le.mpr h]

theorem route_overlay {addr : Word} (h : addr.toNat ≤ 0x00FF) :
    route true addr = .storage .boot addr.toNat := by
  simp [route, h]

/-- Without the overlay no address leads to a boot byte (R52). -/
theorem route_false_ne_boot {addr : Word} {i : Nat} : route false addr ≠ .storage .boot i := by
  intro h
  obtain ⟨r, i', hdest, -, -, hboot⟩ | ⟨r, hdest, -⟩ | ⟨hdest, -⟩ := route_cases false addr
  · have hr : r = .boot := (Dest.storage.inj (hdest.symm.trans h)).1
    exact Bool.false_ne_true (hboot hr)
  · cases hdest.symm.trans h
  · cases hdest.symm.trans h

theorem route_wram {ba : Bool} {addr : Word} (hlo : 0xC000 ≤ addr.toNat) (hhi : addr.toNat ≤ 0xDFFF) :
    route ba addr = .storage .wram (addr.toNat - 0xC000) := by
  unfold route
  dsimp only
  rw [if_neg, if_neg, if_neg, if_neg, if_pos] <;> omega

theorem route_echo {ba : Bool} {addr : Word} (hlo : 0xE000 ≤ addr.toNat) (hhi : addr.toNat ≤ 0xFDFF) :
    route ba addr = .storage .wram (addr.toNat - 0xE000) := by
  unfold route
  dsimp only
  rw [if_neg, if_neg, if_neg, if_neg, if_neg, if_pos] <;> omega

/-- An address of the echo region leads where the address 0x2000 below it leads (R53). -/
theorem route_echo_eq {ba : Bool} {addr : Word} (hlo : 0xE000 ≤ addr.toNat) (hhi : addr.toNat ≤ 0xFDFF) :
    route ba addr = route ba (addr - 0x2000#16) := by
  have hsub : (addr - 0x2000#16).toNat = addr.toNat - 0x2000 := by bv_omega
  have hindex : addr.toNat - 0xE000 = (addr - 0x2000#16).toNat - 0xC000 := by omega
  rw [route_echo hlo hhi, route_wram (by omega) (by omega), hindex]

/-! ## Reading and writing a byte at its destination (R54, R57) -/

section

variable {s t : State} {addr other : Word} {v : Byte}

/-- What is read depends on the content of memory and display and on where the address leads. -/
theorem State.peek_congr_of_route_eq (hmem : s.mem = t.mem) (hdisplay : s.display = t.display)
    (h : route s.bootActive addr = route t.bootActive other) : s.peek addr = t.peek other := by
  simp only [State.peek, hmem, hdisplay, h]

theorem State.poke_congr_of_route_eq (h : route s.bootActive addr = route s.bootActive other) :
    s.poke addr v = s.poke other v := by
  simp only [State.poke, h]

@[simp] theorem State.peek_displayReg (s : State) (r : DisplayReg) : s.peek r.addr = some (s.display.readReg r) := by
  simp [State.peek]

@[simp] theorem State.poke_displayReg (s : State) (r : DisplayReg) (v : Byte) :
    s.poke r.addr v = some { s with display := s.display.writeReg r v } := by
  simp [State.poke]

/-- A write of LY changes nothing (R56). -/
theorem State.poke_ly (s : State) (v : Byte) : s.poke 0xFF44#16 v = some s := s.poke_displayReg .ly v

theorem Display.readReg_writeReg_self (d : Display) {r : DisplayReg} (v : Byte) (hr : r ≠ .ly) :
    (d.writeReg r v).readReg r = v := by
  cases r with
  | ly => exact absurd rfl hr
  | _ => rfl

theorem Display.readReg_writeReg_of_ne (d : Display) {r r' : DisplayReg} (v : Byte) (hr : r' ≠ r) :
    (d.writeReg r v).readReg r' = d.readReg r' := by
  cases r <;> cases r' <;> first | rfl | exact absurd rfl hr

theorem State.poke_eq_none_iff_peek : s.poke addr v = none ↔ s.peek addr = none :=
  State.poke_eq_none_iff.trans State.peek_eq_none_iff.symm

theorem State.exists_poke (v : Byte) (h : s.peek addr ≠ none) : ∃ t, s.poke addr v = some t :=
  Option.ne_none_iff_exists'.mp (mt State.poke_eq_none_iff_peek.mp h)

theorem State.peek_ne_none_of_poke (h : s.poke addr v = some t) : s.peek addr ≠ none := by
  intro hnone
  cases h.symm.trans (State.poke_eq_none_iff_peek.mpr hnone)

theorem State.poke_bootActive (h : s.poke addr v = some t) : t.bootActive = s.bootActive := by
  rw [State.poke_frame h]

/-- A write changes which bytes are held, not which addresses are mapped. -/
theorem State.peek_eq_none_iff_of_poke (h : s.poke addr v = some t) : t.peek other = none ↔ s.peek other = none := by
  rw [State.peek_eq_none_iff, State.peek_eq_none_iff, State.poke_bootActive h]

/-- In canonical memory a read after a write gives the value written, ROM included, LY apart. -/
theorem State.peek_poke_self (hwf : s.mem.wf = true) (haddr : addr ≠ 0xFF44#16) (h : s.poke addr v = some t) :
    t.peek addr = some v := by
  obtain ⟨r, i, hdest, -, rfl⟩ | ⟨r, hdest, rfl⟩ := State.poke_cases h
  · simp [State.peek, hdest, Memory.read_write_self hwf]
  · have hr : r ≠ .ly := by
      rintro rfl
      exact haddr (route_eq_register_iff.mp hdest)
    simp [State.peek, hdest, Display.readReg_writeReg_self _ _ hr]

/-- A write leaves every byte with another destination alone, with the overlay mapped or not. -/
theorem State.peek_poke_of_route_ne {ba : Bool} (h : s.poke addr v = some t)
    (hne : route ba other ≠ route s.bootActive addr) :
    { t with bootActive := ba }.peek other = { s with bootActive := ba }.peek other := by
  cases hother : route ba other with
  | unmapped => simp only [State.peek, hother]
  | storage r' i' =>
    obtain ⟨r, i, hdest, hi, rfl⟩ | ⟨r, -, rfl⟩ := State.poke_cases h
    · have hkey : r'.base + i' ≠ r.base + i := by
        intro heq
        obtain ⟨rfl, rfl⟩ := region_key_inj (route_index_lt hother) hi heq
        exact hne (hother.trans hdest.symm)
      simp only [State.peek, hother, Memory.read_write_of_ne hkey]
    · simp only [State.peek, hother]
  | register r' =>
    obtain ⟨r, i, -, -, rfl⟩ | ⟨r, hdest, rfl⟩ := State.poke_cases h
    · simp only [State.peek, hother]
    · have hr : r' ≠ r := by
        rintro rfl
        exact hne (hother.trans hdest.symm)
      simp only [State.peek, hother, Display.readReg_writeReg_of_ne _ _ hr]

theorem State.peek_poke_of_ne (h : s.poke addr v = some t) (hne : route s.bootActive other ≠ route s.bootActive addr) :
    t.peek other = s.peek other := by
  have hboot : t.bootActive = s.bootActive := State.poke_bootActive h
  calc t.peek other = { t with bootActive := s.bootActive }.peek other := by rw [← hboot]
    _ = s.peek other := State.peek_poke_of_route_ne h hne

/-- No write changes what LY reads as (R56). -/
theorem State.peek_ly_of_poke (h : s.poke addr v = some t) : t.peek 0xFF44#16 = s.peek 0xFF44#16 := by
  have hscanline : t.display.scanline = s.display.scanline := by
    obtain ⟨r, i, -, -, rfl⟩ | ⟨r, -, rfl⟩ := State.poke_cases h
    · rfl
    · exact (Display.writeReg_frame _ r v).2.1
  calc t.peek 0xFF44#16 = some (BitVec.ofNat 8 t.display.scanline) := t.peek_displayReg .ly
    _ = some (BitVec.ofNat 8 s.display.scanline) := by rw [hscanline]
    _ = s.peek 0xFF44#16 := (s.peek_displayReg .ly).symm

end

/-! ## The memory statements -/

/-- Settles O17: what a route can do says which addresses are unmapped; a read and a write consult the same route. -/
theorem unmappedAddressesExactly : Obligations.UnmappedAddressesExactly := by
  intro s addr v
  refine ⟨?_, State.poke_eq_none_iff_peek, fun hnone => ⟨?_, ?_⟩⟩
  · rw [State.peek_eq_none_iff, route_eq_unmapped_iff, DisplayReg.forall_ne_addr_iff]
    bv_omega
  · exact fun kind f => readByte_none hnone
  · exact fun f => writeByte_none (State.poke_eq_none_iff_peek.mpr hnone)

/-- Settles O18: both addresses have one destination. -/
theorem echoMirrorsWorkRam : Obligations.EchoMirrorsWorkRam := by
  intro s addr v hlo hhi
  have hroute := route_echo_eq (ba := s.bootActive) hlo hhi
  exact ⟨State.peek_congr_of_route_eq rfl rfl hroute, State.poke_congr_of_route_eq hroute⟩

/-- Settles O19 by the rules of a read after a write: at the same address, at LY and at another destination. -/
theorem readAfterWrite : Obligations.ReadAfterWrite := by
  intro s t addr v hwf hpoke
  refine ⟨fun haddr => State.peek_poke_self hwf haddr hpoke, ?_, fun _ => State.peek_poke_of_ne hpoke,
    State.poke_bootActive hpoke⟩
  rintro rfl
  exact Option.some.inj (hpoke.symm.trans (s.poke_ly v))

/-- The word written at two mapped addresses, neither of them LY, is the word read back (R60). -/
theorem writeWord_readWord {s : State} {addr : Word} (hwf : s.mem.wf = true) (hlo : s.peek addr ≠ none)
    (hhi : s.peek (addr + 1) ≠ none) (hlo_ly : addr ≠ 0xFF44#16) (hhi_ly : addr + 1 ≠ 0xFF44#16) (v : Word) :
    ∃ t, writeWord addr v s .next = .next t ∧ t.peek addr = some (lowByte v) ∧
      t.peek (addr + 1) = some (highByte v) ∧ ∀ f, readWord addr t f = f v := by
  obtain ⟨u, hu⟩ := State.exists_poke (lowByte v) hlo
  obtain ⟨t, ht⟩ := State.exists_poke (highByte v) (mt (State.peek_eq_none_iff_of_poke hu).mp hhi)
  have hroute : route u.bootActive addr ≠ route u.bootActive (addr + 1) := by
    rw [State.poke_bootActive hu]
    exact route_succ_ne (mt State.peek_eq_none_iff.mpr hlo)
  have htlo : t.peek addr = some (lowByte v) :=
    (State.peek_poke_of_ne ht hroute).trans (State.peek_poke_self hwf hlo_ly hu)
  have hthi : t.peek (addr + 1) = some (highByte v) := State.peek_poke_self (State.poke_wf hu hwf) hhi_ly ht
  refine ⟨t, writeWord_next_iff.mpr ⟨u, t, hu, ht, rfl⟩, htlo, hthi, fun f => ?_⟩
  rw [readWord, readByte_some htlo, readByte_some hthi, joinBytes_high_low]

/-- Writing a word does not change what LY reads as. -/
theorem peek_ly_of_writeWord {s t : State} {addr v : Word} (h : writeWord addr v s .next = .next t) :
    t.peek 0xFF44#16 = s.peek 0xFF44#16 := by
  obtain ⟨u, w, hu, hw, hnext⟩ := writeWord_next_iff.mp h
  cases hnext
  exact (State.peek_ly_of_poke hw).trans (State.peek_ly_of_poke hu)

/-- Settles O20: a byte that is LY reads the same after every write, so two different words cannot both stand there. -/
theorem wordRoundTrip : Obligations.WordRoundTrip := by
  intro s addr hwf
  refine ⟨fun hround => ?_, fun ⟨hlo, hhi, hlo_ly, hhi_ly⟩ => writeWord_readWord hwf hlo hhi hlo_ly hhi_ly⟩
  obtain ⟨t, hwrite, htlo, hthi, -⟩ := hround 0x0000#16
  obtain ⟨t', hwrite', htlo', hthi', -⟩ := hround 0xFFFF#16
  obtain ⟨u, w, hu, hw, -⟩ := writeWord_next_iff.mp hwrite
  have hly : t.peek 0xFF44#16 = t'.peek 0xFF44#16 :=
    (peek_ly_of_writeWord hwrite).trans (peek_ly_of_writeWord hwrite').symm
  refine ⟨State.peek_ne_none_of_poke hu,
    mt (State.peek_eq_none_iff_of_poke hu).mpr (State.peek_ne_none_of_poke hw), ?_, ?_⟩
  · rintro rfl
    exact absurd (htlo.symm.trans (hly.trans htlo')) (by decide)
  · intro haddr
    rw [haddr] at hthi hthi'
    exact absurd (hthi.symm.trans (hly.trans hthi')) (by decide)

/-- Settles O21: below 0x0100 the write reaches a boot byte, which no address leads to without the overlay; from 0x0100
on an address leads to the same byte with the overlay and without it. -/
theorem bootOverlayHidesRom : Obligations.BootOverlayHidesRom := by
  intro s t addr v hwf hboot hpoke
  refine ⟨fun hle => ⟨?_, fun other => ?_⟩, fun hge => ⟨?_, ?_⟩⟩
  · exact State.peek_poke_self hwf (by rintro rfl; exact absurd hle (by decide)) hpoke
  · refine State.peek_poke_of_route_ne hpoke ?_
    rw [hboot, route_overlay hle]
    exact route_false_ne_boot
  · exact State.peek_congr_of_route_eq rfl rfl (route_congr_of_le hge)
  · have hroute : route false addr = route s.bootActive addr := route_congr_of_le hge
    obtain ⟨r, i, hdest, -, rfl⟩ | ⟨r, hdest, rfl⟩ := State.poke_cases hpoke <;>
      simp [State.poke, hroute, hdest]

/-- Settles O22: each register is routed to at its one address, and the rest of the window is unmapped. -/
theorem displayRegisterWindow : Obligations.DisplayRegisterWindow := by
  intro s v
  refine ⟨s.peek_displayReg .lcdc, s.poke_displayReg .lcdc v, s.peek_displayReg .scy, s.poke_displayReg .scy v,
    s.peek_displayReg .scx, s.poke_displayReg .scx v, s.peek_displayReg .ly, s.poke_ly v, s.peek_displayReg .bgp,
    s.poke_displayReg .bgp v, fun addr hlo hhi hmem => ?_⟩
  have hne : ∀ r : DisplayReg, addr ≠ r.addr := DisplayReg.forall_ne_addr_iff.mpr (by simpa using hmem)
  have hnone : s.peek addr = none :=
    State.peek_eq_none_iff.mpr (route_eq_unmapped_iff.mpr ⟨by omega, hhi, hne⟩)
  exact ⟨hnone, State.poke_eq_none_iff_peek.mpr hnone⟩

end Sys2Proof.Machine

/-! # What an instruction may change in memory -/

namespace Sys2Proof

open Sys2Proof.Machine

section

variable {s : State}

/-! ## The addresses an instruction stores to, form by form -/

theorem Instr.storesTo_ld {src : R8} (hsrc : src ≠ .atHl) : (Instr.ld .atHl src).StoresTo s s.hl :=
  .inl ⟨src, hsrc, rfl, rfl⟩

theorem Instr.storesTo_ldImm (v : Byte) : (Instr.ldImm .atHl v).StoresTo s s.hl := .inr <| .inl ⟨v, rfl, rfl⟩

theorem Instr.storesTo_ldAtBcA : Instr.ldAtBcA.StoresTo s s.bc := .inr <| .inr <| .inl ⟨rfl, rfl⟩

theorem Instr.storesTo_ldAtDeA : Instr.ldAtDeA.StoresTo s s.de := .inr <| .inr <| .inr <| .inl ⟨rfl, rfl⟩

theorem Instr.storesTo_ldAtHlIncA : Instr.ldAtHlIncA.StoresTo s s.hl := by
  iterate 4 right
  exact .inl ⟨.inl rfl, rfl⟩

theorem Instr.storesTo_ldAtHlDecA : Instr.ldAtHlDecA.StoresTo s s.hl := by
  iterate 4 right
  exact .inl ⟨.inr rfl, rfl⟩

theorem Instr.storesTo_ldAtA16A (t : Word) : (Instr.ldAtA16A t).StoresTo s t := by
  iterate 5 right
  exact .inl ⟨t, rfl, rfl⟩

theorem Instr.storesTo_ldhAtA8A (n : Byte) : (Instr.ldhAtA8A n).StoresTo s (highPage n) := by
  iterate 6 right
  exact .inl ⟨n, rfl, rfl⟩

theorem Instr.storesTo_ldAtCA : Instr.ldAtCA.StoresTo s (highPage s.c) := by
  iterate 7 right
  exact .inl ⟨rfl, rfl⟩

theorem Instr.storesTo_ldAtA16Sp {t addr : Word} (haddr : addr = t ∨ addr = t + 1) :
    (Instr.ldAtA16Sp t).StoresTo s addr := by
  iterate 8 right
  exact .inl ⟨t, rfl, haddr⟩

theorem Instr.storesTo_inc : (Instr.inc .atHl).StoresTo s s.hl := by
  iterate 9 right
  exact .inl ⟨.inl rfl, rfl⟩

theorem Instr.storesTo_dec : (Instr.dec .atHl).StoresTo s s.hl := by
  iterate 9 right
  exact .inl ⟨.inr rfl, rfl⟩

theorem Instr.storesTo_rot (op : RotOp) : (Instr.rot op .atHl).StoresTo s s.hl := by
  iterate 10 right
  exact .inl ⟨op, rfl, rfl⟩

theorem Instr.storesTo_resetBit (y : BitVec 3) : (Instr.resetBit y .atHl).StoresTo s s.hl := by
  iterate 11 right
  exact .inl ⟨y, .inl rfl, rfl⟩

theorem Instr.storesTo_setBit (y : BitVec 3) : (Instr.setBit y .atHl).StoresTo s s.hl := by
  iterate 11 right
  exact .inl ⟨y, .inr rfl, rfl⟩

/-- PUSH, CALL, RST and a taken CALL cc store at the two bytes below SP. -/
theorem Instr.storesTo_of_pushes {i : Instr} {addr : Word}
    (hi : (∃ p, i = .push p) ∨ (∃ t, i = .callA16 t) ∨ (∃ y, i = .rst y) ∨ ∃ cc t, i = .call cc t ∧ s.holds cc = true)
    (haddr : addr = s.sp - 1 ∨ addr = s.sp - 2) : i.StoresTo s addr := by
  iterate 12 right
  exact ⟨hi, haddr⟩

end

end Sys2Proof

namespace Sys2Proof.Machine

/-- Memory and the display registers changed from `s` to `t` by stores to addresses of `A` alone. -/
structure StoreFrame (A : Word → Prop) (s t : State) : Prop where
  bootActive : t.bootActive = s.bootActive
  peek : ∀ addr, (∀ st, A st → route s.bootActive addr ≠ route s.bootActive st) → t.peek addr = s.peek addr
  kept : (∀ st, ¬ A st) → t.mem = s.mem ∧ t.display = s.display

section

variable {A : Word → Prop} {s t u : State}

/-! ## Stores to addresses of `A` -/

theorem RegsOnly.storeFrame (h : RegsOnly s t) : StoreFrame A s t :=
  ⟨h.bootActive, fun addr _ => State.peek_congr h.mem h.display h.bootActive addr, fun _ => ⟨h.mem, h.display⟩⟩

theorem StoreFrame.trans (h : StoreFrame A s u) (h' : StoreFrame A u t) : StoreFrame A s t where
  bootActive := h'.bootActive.trans h.bootActive
  peek addr haddr := (h'.peek addr (by rwa [h.bootActive])).trans (h.peek addr haddr)
  kept hA := ⟨(h'.kept hA).1.trans (h.kept hA).1, (h'.kept hA).2.trans (h.kept hA).2⟩

theorem storeFrame_poke {addr : Word} {v : Byte} (hA : A addr) (h : s.poke addr v = some t) : StoreFrame A s t :=
  ⟨State.poke_bootActive h, fun _ hother => State.peek_poke_of_ne h (hother addr hA),
    fun hnone => absurd hA (hnone addr)⟩

/-- Only the `(HL)` operand is a store. -/
theorem storeFrame_setR8 {z : R8} {v : Byte} (hA : z = .atHl → A s.hl) (h : s.setR8 z v = some t) :
    StoreFrame A s t := by
  obtain ⟨hz, hpoke⟩ | ⟨-, ht⟩ := State.setR8_cases h
  · exact storeFrame_poke (hA hz) hpoke
  · rw [ht]
    exact RegsOnly.storeFrame ⟨rfl, rfl, rfl, rfl, rfl, rfl, rfl⟩

theorem RegsOnly.of_next (h : (.next u : Out) = .next t) (hu : RegsOnly s u) : RegsOnly s t := by
  cases h
  exact hu

theorem storeFrame_next (h : (.next u : Out) = .next t) (hu : RegsOnly s u) : StoreFrame A s t :=
  (RegsOnly.of_next h hu).storeFrame

/-! ## The shared forms that store -/

theorem storeFrame_loadR8 {dst src : R8} (hA : dst = .atHl → A s.hl) (h : loadR8 dst src s = .next t) :
    StoreFrame A s t := by
  obtain ⟨v, -, hset⟩ := loadR8_next_iff.mp h
  exact storeFrame_setR8 hA hset

theorem storeFrame_modifyR8 {g : Byte → Flags → Byte × Flags} {z : R8} (hA : z = .atHl → A s.hl)
    (h : modifyR8 g z s = .next t) : StoreFrame A s t := by
  obtain ⟨v, -, hset⟩ := modifyR8_next_iff.mp h
  have hflags : RegsOnly s { s with flags := (g v s.flags).2 } := ⟨rfl, rfl, rfl, rfl, rfl, rfl, rfl⟩
  exact hflags.storeFrame.trans (storeFrame_setR8 hA hset)

theorem storeFrame_storeA {addr : Word} (hA : A addr) (h : storeA addr s = .next t) : StoreFrame A s t :=
  storeFrame_poke hA (storeA_next_iff.mp h)

theorem storeFrame_storeAThen {hl : Word} (hA : A s.hl) (h : storeAThen hl s = .next t) : StoreFrame A s t := by
  obtain ⟨u, hpoke, rfl⟩ := storeAThen_next_iff.mp h
  have hmoved : RegsOnly u (u.setHl hl) := ⟨rfl, rfl, rfl, rfl, rfl, rfl, rfl⟩
  exact (storeFrame_poke hA hpoke).trans hmoved.storeFrame

theorem storeFrame_writeWord {addr v : Word} (hA : ∀ {st}, st = addr ∨ st = addr + 1 → A st)
    (h : writeWord addr v s .next = .next t) : StoreFrame A s t := by
  obtain ⟨u, w, hlo, hhi, hw⟩ := writeWord_next_iff.mp h
  cases hw
  exact (storeFrame_poke (hA (.inl rfl)) hlo).trans (storeFrame_poke (hA (.inr rfl)) hhi)

theorem storeFrame_push {v : Word} {f : State → Out} (hA : ∀ {st}, st = s.sp - 1 ∨ st = s.sp - 2 → A st)
    (h : push v s f = .next t) (hf : ∀ {w}, f w = .next t → RegsOnly w t) : StoreFrame A s t := by
  obtain ⟨u, w, hhi, hlo, hw⟩ := push_next_iff.mp h
  have hsp : u.sp = s.sp - 1 := by rw [State.poke_frame hhi]
  have hmoved : RegsOnly s { s with sp := s.sp - 1 } := ⟨rfl, rfl, rfl, rfl, rfl, rfl, rfl⟩
  have hmoved' : RegsOnly u { u with sp := u.sp - 1 } := ⟨rfl, rfl, rfl, rfl, rfl, rfl, rfl⟩
  have hhigh : StoreFrame A s u := hmoved.storeFrame.trans (storeFrame_poke (hA (.inl rfl)) hhi)
  have hlow : StoreFrame A u w := hmoved'.storeFrame.trans (storeFrame_poke (hA (.inr (by bv_omega))) hlo)
  exact (hhigh.trans hlow).trans (hf hw).storeFrame

theorem storeFrame_pushPair {p : Rp2} (hA : ∀ {st}, st = s.sp - 1 ∨ st = s.sp - 2 → A st)
    (h : pushPair p s = .next t) : StoreFrame A s t :=
  storeFrame_push hA h fun hw => .of_next hw ⟨rfl, rfl, rfl, rfl, rfl, rfl, rfl⟩

theorem storeFrame_callTo {target : Word} (hA : ∀ {st}, st = s.sp - 1 ∨ st = s.sp - 2 → A st)
    (h : callTo target s = .next t) : StoreFrame A s t :=
  storeFrame_push hA h fun hw => .of_next hw ⟨rfl, rfl, rfl, rfl, rfl, rfl, rfl⟩

/-! ## The shared forms that store nothing -/

theorem regsOnly_addHl {p : Rp} (h : addHl p s = .next t) : RegsOnly s t :=
  .of_next h ⟨rfl, rfl, rfl, rfl, rfl, rfl, rfl⟩

theorem regsOnly_aluImm {op : AluOp} {v : Byte} (h : aluImm op v s = .next t) : RegsOnly s t :=
  .of_next h ⟨rfl, rfl, rfl, rfl, rfl, rfl, rfl⟩

theorem regsOnly_jumpRelative {e : Byte} (h : jumpRelative e s = .next t) : RegsOnly s t :=
  .of_next h ⟨rfl, rfl, rfl, rfl, rfl, rfl, rfl⟩

theorem regsOnly_aluR8 {op : AluOp} {z : R8} (h : aluR8 op z s = .next t) : RegsOnly s t := by
  obtain ⟨v, -, rfl⟩ := aluR8_next_iff.mp h
  exact ⟨rfl, rfl, rfl, rfl, rfl, rfl, rfl⟩

theorem regsOnly_testBitR8 {n : Nat} {z : R8} (h : testBitR8 n z s = .next t) : RegsOnly s t := by
  obtain ⟨v, -, rfl⟩ := testBitR8_next_iff.mp h
  exact ⟨rfl, rfl, rfl, rfl, rfl, rfl, rfl⟩

theorem regsOnly_loadA {addr : Word} (h : loadA addr s = .next t) : RegsOnly s t := by
  obtain ⟨v, -, rfl⟩ := loadA_next_iff.mp h
  exact ⟨rfl, rfl, rfl, rfl, rfl, rfl, rfl⟩

theorem regsOnly_loadAThen {hl : Word} (h : loadAThen hl s = .next t) : RegsOnly s t := by
  obtain ⟨v, -, rfl⟩ := loadAThen_next_iff.mp h
  exact ⟨rfl, rfl, rfl, rfl, rfl, rfl, rfl⟩

theorem regsOnly_popPair {p : Rp2} (h : popPair p s = .next t) : RegsOnly s t := by
  obtain ⟨lo, hi, -, -, rfl⟩ := popPair_next_iff.mp h
  cases p <;> exact ⟨rfl, rfl, rfl, rfl, rfl, rfl, rfl⟩

theorem regsOnly_returnFrom (h : returnFrom s = .next t) : RegsOnly s t := by
  obtain ⟨lo, hi, -, -, rfl⟩ := returnFrom_next_iff.mp h
  exact ⟨rfl, rfl, rfl, rfl, rfl, rfl, rfl⟩

theorem regsOnly_reti (h : exec .reti s = .next t) : RegsOnly s t := by
  have hpop : pop s (fun a u => .next { u with pc := a, ime := true }) = .next t := h
  obtain ⟨lo, hi, -, -, ht⟩ := pop_next_iff.mp hpop
  exact .of_next ht ⟨rfl, rfl, rfl, rfl, rfl, rfl, rfl⟩

theorem regsOnly_loadA_block (p : BitVec 2) (h : exec (.loadA p) s = .next t) : RegsOnly s t := by
  revert p
  exact forall_field2 regsOnly_loadA regsOnly_loadA regsOnly_loadAThen regsOnly_loadAThen

theorem regsOnly_accumulator (y : BitVec 3) (h : exec (.accumulator y) s = .next t) : RegsOnly s t := by
  revert y
  apply forall_field3 <;> exact fun h => .of_next h ⟨rfl, rfl, rfl, rfl, rfl, rfl, rfl⟩

/-- An untaken transfer stores nothing. -/
theorem storeFrame_onCond {cc : Cond} {f : State → Out} (h : onCond cc f s = .next t)
    (hf : s.holds cc = true → f s = .next t → StoreFrame A s t) : StoreFrame A s t := by
  obtain ⟨hcc, htaken⟩ | ⟨-, rfl⟩ := onCond_next_iff.mp h
  · exact hf hcc htaken
  · exact RegsOnly.storeFrame ⟨rfl, rfl, rfl, rfl, rfl, rfl, rfl⟩

/-! ## Every instruction -/

theorem storeFrame_storeA_block (p : BitVec 2) (h : exec (.storeA p) s = .next t) :
    StoreFrame ((Instr.storeA p).StoresTo s) s t := by
  revert p
  exact forall_field2 (storeFrame_storeA Instr.storesTo_ldAtBcA) (storeFrame_storeA Instr.storesTo_ldAtDeA)
    (storeFrame_storeAThen Instr.storesTo_ldAtHlIncA) (storeFrame_storeAThen Instr.storesTo_ldAtHlDecA)

/-- An instruction that completes has stored to its addresses alone. -/
theorem exec_storeFrame {i : Instr} (h : exec i s = .next t) : StoreFrame (i.StoresTo s) s t := by
  cases i.block with
  | nop | halt | stop _ | di | ei | addSpE8 _ | ldHlSpE8 _ | jpHl | ldSpHl | jpA16 _ | jrE8 _ =>
    exact storeFrame_next h ⟨rfl, rfl, rfl, rfl, rfl, rfl, rfl⟩
  | addHl p => exact (regsOnly_addHl (exec_addHl s p ▸ h)).storeFrame
  | aluImm op v => exact (regsOnly_aluImm (exec_aluImm s op v ▸ h)).storeFrame
  | ldPair p v => exact storeFrame_next (exec_ldPair s p v ▸ h) (State.regsOnly_setRp p _)
  | incPair p => exact storeFrame_next (exec_incPair s p ▸ h) (State.regsOnly_setRp p _)
  | decPair p => exact storeFrame_next (exec_decPair s p ▸ h) (State.regsOnly_setRp p _)
  | loadA p => exact (regsOnly_loadA_block p h).storeFrame
  | ldhAAtA8 _ | ldAAtC | ldAAtA16 _ => exact (regsOnly_loadA h).storeFrame
  | accumulator y => exact (regsOnly_accumulator y h).storeFrame
  | alu op z => exact (regsOnly_aluR8 (exec_alu s op z ▸ h)).storeFrame
  | testBit y z => exact (regsOnly_testBitR8 (exec_testBit s y z ▸ h)).storeFrame
  | pop p => exact (regsOnly_popPair (exec_pop s p ▸ h)).storeFrame
  | ret => exact (regsOnly_returnFrom h).storeFrame
  | reti => exact (regsOnly_reti h).storeFrame
  | retIf cc => exact storeFrame_onCond (exec_retIf s cc ▸ h) fun _ htaken => (regsOnly_returnFrom htaken).storeFrame
  | jr cc e => exact storeFrame_onCond (exec_jr s cc e ▸ h) fun _ htaken => (regsOnly_jumpRelative htaken).storeFrame
  | jp cc a =>
    rw [exec_jp] at h
    exact storeFrame_onCond h fun _ htaken => storeFrame_next htaken ⟨rfl, rfl, rfl, rfl, rfl, rfl, rfl⟩
  | illegal hi => exact absurd h (exec_ne_next_of_illegal hi)
  | ld dst src hne =>
    refine storeFrame_loadR8 ?_ (exec_ld s hne ▸ h)
    rintro rfl
    exact Instr.storesTo_ld fun hsrc => hne ⟨rfl, hsrc⟩
  | ldImm z v =>
    refine storeFrame_setR8 ?_ (loadImm_next_iff.mp (exec_ldImm s z v ▸ h))
    rintro rfl
    exact Instr.storesTo_ldImm v
  | inc z => exact storeFrame_modifyR8 (by rintro rfl; exact Instr.storesTo_inc) (exec_inc s z ▸ h)
  | dec z => exact storeFrame_modifyR8 (by rintro rfl; exact Instr.storesTo_dec) (exec_dec s z ▸ h)
  | rot op z => exact storeFrame_modifyR8 (by rintro rfl; exact Instr.storesTo_rot op) (exec_rot s op z ▸ h)
  | resetBit y z => exact storeFrame_modifyR8 (by rintro rfl; exact Instr.storesTo_resetBit y) (exec_resetBit s y z ▸ h)
  | setBit y z => exact storeFrame_modifyR8 (by rintro rfl; exact Instr.storesTo_setBit y) (exec_setBit s y z ▸ h)
  | storeA p => exact storeFrame_storeA_block p h
  | ldhAtA8A n => exact storeFrame_storeA (Instr.storesTo_ldhAtA8A n) h
  | ldAtCA => exact storeFrame_storeA Instr.storesTo_ldAtCA h
  | ldAtA16A a => exact storeFrame_storeA (Instr.storesTo_ldAtA16A a) h
  | ldAtA16Sp a => exact storeFrame_writeWord Instr.storesTo_ldAtA16Sp h
  | push p => exact storeFrame_pushPair (Instr.storesTo_of_pushes (.inl ⟨p, rfl⟩)) (exec_push s p ▸ h)
  | callA16 a => exact storeFrame_callTo (Instr.storesTo_of_pushes (.inr (.inl ⟨a, rfl⟩))) h
  | rst y => exact storeFrame_callTo (Instr.storesTo_of_pushes (.inr (.inr (.inl ⟨y, rfl⟩)))) (exec_rst s y ▸ h)
  | call cc a =>
    exact storeFrame_onCond (exec_call s cc a ▸ h) fun hcc htaken =>
      storeFrame_callTo (Instr.storesTo_of_pushes (.inr (.inr (.inr ⟨cc, a, rfl, hcc⟩)))) htaken

end

/-- Settles O16, block by block of the opcode map: every store of an instruction is at one of its addresses. -/
theorem memoryFrame : Obligations.MemoryFrame := by
  intro i s t h
  have hframe := exec_storeFrame h
  exact ⟨hframe.peek, hframe.kept⟩

end Sys2Proof.Machine

/-! # Decoding and encoding

The encoding of every instruction of a block of the opcode map is its opcode, put together from the block's fields, and then
its immediate (spec/30_encoding.md R90 to R94). So every entry of the two tables makes instructions with the entry's own
opcode, and what is decoded encodes to the bytes it was read from. -/

namespace Sys2Proof

open Sys2Proof.Machine

/-! ## An opcode byte and its fields (R81) -/

theorem opcode_fields (op : Byte) : opcode (fieldX op) (fieldY op) (fieldZ op) = op := by
  revert op
  decide

/-- The fields p and q are the parts of y. -/
theorem opcodePq_fields (op : Byte) : opcodePq (fieldX op) (fieldP op) (.ofBool (fieldQ op)) (fieldZ op) = op := by
  revert op
  decide

/-! ## The encodings of the blocks with x = 0 (R90) -/

theorem encode_jr (y : BitVec 2) (e : Byte) : encode (.jr (.ofField y) e) = [opcode 0#2 (y.setWidth 3 + 4) 0#3, e] := by
  revert y
  exact forall_field2 rfl rfl rfl rfl

theorem encode_ldPair (p : BitVec 2) (v : Word) :
    encode (.ldPair (.ofField p) v) = [opcodePq 0#2 p 0#1 1#3, lowByte v, highByte v] := by
  revert p
  exact forall_field2 rfl rfl rfl rfl

theorem encode_addHl (p : BitVec 2) : encode (.addHl (.ofField p)) = [opcodePq 0#2 p 1#1 1#3] := by
  revert p
  exact forall_field2 rfl rfl rfl rfl

theorem encode_storeA (p : BitVec 2) : encode (.storeA p) = [opcodePq 0#2 p 0#1 2#3] := by
  revert p
  exact forall_field2 rfl rfl rfl rfl

theorem encode_loadA (p : BitVec 2) : encode (.loadA p) = [opcodePq 0#2 p 1#1 2#3] := by
  revert p
  exact forall_field2 rfl rfl rfl rfl

theorem encode_incPair (p : BitVec 2) : encode (.incPair (.ofField p)) = [opcodePq 0#2 p 0#1 3#3] := by
  revert p
  exact forall_field2 rfl rfl rfl rfl

theorem encode_decPair (p : BitVec 2) : encode (.decPair (.ofField p)) = [opcodePq 0#2 p 1#1 3#3] := by
  revert p
  exact forall_field2 rfl rfl rfl rfl

theorem encode_inc (y : BitVec 3) : encode (.inc (.ofField y)) = [opcode 0#2 y 4#3] := by
  revert y
  exact forall_field3 rfl rfl rfl rfl rfl rfl rfl rfl

theorem encode_dec (y : BitVec 3) : encode (.dec (.ofField y)) = [opcode 0#2 y 5#3] := by
  revert y
  exact forall_field3 rfl rfl rfl rfl rfl rfl rfl rfl

theorem encode_ldImm (y : BitVec 3) (v : Byte) : encode (.ldImm (.ofField y) v) = [opcode 0#2 y 6#3, v] := by
  revert y
  exact forall_field3 rfl rfl rfl rfl rfl rfl rfl rfl

theorem encode_accumulator (y : BitVec 3) : encode (.accumulator y) = [opcode 0#2 y 7#3] := by
  revert y
  exact forall_field3 rfl rfl rfl rfl rfl rfl rfl rfl

/-! ## The encodings of the blocks with x = 1 and x = 2 (R91, R92) -/

theorem encode_ld (y z : BitVec 3) : encode (.ld (.ofField y) (.ofField z)) = [opcode 1#2 y z] := by
  revert y z
  decide

theorem encode_alu (y z : BitVec 3) : encode (.alu (.ofField y) (.ofField z)) = [opcode 2#2 y z] := by
  revert y z
  decide

/-! ## The encodings of the blocks with x = 3 (R93) -/

theorem encode_retIf (y : BitVec 2) : encode (.retIf (.ofField y)) = [opcode 3#2 (y.setWidth 3) 0#3] := by
  revert y
  exact forall_field2 rfl rfl rfl rfl

theorem encode_pop (p : BitVec 2) : encode (.pop (.ofField p)) = [opcodePq 3#2 p 0#1 1#3] := by
  revert p
  exact forall_field2 rfl rfl rfl rfl

theorem encode_jp (y : BitVec 2) (t : Word) :
    encode (.jp (.ofField y) t) = [opcode 3#2 (y.setWidth 3) 2#3, lowByte t, highByte t] := by
  revert y
  exact forall_field2 rfl rfl rfl rfl

theorem encode_call (y : BitVec 2) (t : Word) :
    encode (.call (.ofField y) t) = [opcode 3#2 (y.setWidth 3) 4#3, lowByte t, highByte t] := by
  revert y
  exact forall_field2 rfl rfl rfl rfl

theorem encode_push (p : BitVec 2) : encode (.push (.ofField p)) = [opcodePq 3#2 p 0#1 5#3] := by
  revert p
  exact forall_field2 rfl rfl rfl rfl

theorem encode_aluImm (y : BitVec 3) (v : Byte) : encode (.aluImm (.ofField y) v) = [opcode 3#2 y 6#3, v] := by
  revert y
  exact forall_field3 rfl rfl rfl rfl rfl rfl rfl rfl

theorem encode_rst (y : BitVec 3) : encode (.rst y) = [opcode 3#2 y 7#3] := by
  revert y
  exact forall_field3 rfl rfl rfl rfl rfl rfl rfl rfl

/-! ## The encodings of the extended blocks (R94) -/

theorem encode_rot (y z : BitVec 3) : encode (.rot (.ofField y) (.ofField z)) = [0xCB#8, opcode 0#2 y z] := by
  revert y z
  decide

theorem encode_testBit (y z : BitVec 3) : encode (.testBit y (.ofField z)) = [0xCB#8, opcode 1#2 y z] := by
  revert y z
  decide

theorem encode_resetBit (y z : BitVec 3) : encode (.resetBit y (.ofField z)) = [0xCB#8, opcode 2#2 y z] := by
  revert y z
  decide

theorem encode_setBit (y z : BitVec 3) : encode (.setBit y (.ofField z)) = [0xCB#8, opcode 3#2 y z] := by
  revert y z
  decide

/-! ## The entries of the tables -/

/-- Every instruction the entry makes is encoded by the opcode `op` and its immediate, low byte first; the escape stands at
its own byte (R89, R98). -/
def Entry.EncodedBy (op : Byte) : Entry → Prop
  | .plain i => encode i = [op]
  | .imm8 f => ∀ v, encode (f v) = [op, v]
  | .imm16 f => ∀ v, encode (f v) = [op, lowByte v, highByte v]
  | .escape => op = 0xCB#8

theorem primaryX0_encodedBy {op : Byte} (hx : fieldX op = 0#2) : (primaryX0 op).EncodedBy op := by
  have hop := opcode_fields op
  have hopPq := opcodePq_fields op
  rw [hx] at hop hopPq
  clear hx
  unfold primaryX0
  generalize fieldZ op = z, fieldY op = y, fieldP op = p, fieldQ op = q at hop hopPq ⊢
  revert z
  apply forall_field3
  · rintro rfl -
    revert y
    exact forall_field3 rfl (fun _ => rfl) (fun _ => rfl) (fun _ => rfl) (encode_jr 0) (encode_jr 1) (encode_jr 2)
      (encode_jr 3)
  · rintro - rfl
    cases q
    · exact encode_ldPair p
    · exact encode_addHl p
  · rintro - rfl
    cases q
    · exact encode_storeA p
    · exact encode_loadA p
  · rintro - rfl
    cases q
    · exact encode_incPair p
    · exact encode_decPair p
  · rintro rfl -
    exact encode_inc y
  · rintro rfl -
    exact encode_dec y
  · rintro rfl -
    exact encode_ldImm y
  · rintro rfl -
    exact encode_accumulator y

theorem primaryX3_encodedBy {op : Byte} (hx : fieldX op = 3#2) : (primaryX3 op).EncodedBy op := by
  have hop := opcode_fields op
  have hopPq := opcodePq_fields op
  rw [hx] at hop hopPq
  clear hx
  unfold primaryX3
  generalize fieldZ op = z, fieldY op = y, fieldP op = p, fieldQ op = q at hop hopPq ⊢
  revert z
  apply forall_field3
  · rintro rfl -
    revert y
    exact forall_field3 (encode_retIf 0) (encode_retIf 1) (encode_retIf 2) (encode_retIf 3) (fun _ => rfl) (fun _ => rfl)
      (fun _ => rfl) (fun _ => rfl)
  · rintro - rfl
    cases q
    · exact encode_pop p
    · revert p
      exact forall_field2 rfl rfl rfl rfl
  · rintro rfl -
    revert y
    exact forall_field3 (encode_jp 0) (encode_jp 1) (encode_jp 2) (encode_jp 3) rfl (fun _ => rfl) rfl (fun _ => rfl)
  · rintro rfl -
    revert y
    exact forall_field3 (fun _ => rfl) rfl rfl rfl rfl rfl rfl rfl
  · rintro rfl -
    revert y
    exact forall_field3 (encode_call 0) (encode_call 1) (encode_call 2) (encode_call 3) rfl rfl rfl rfl
  · rintro - rfl
    cases q
    · exact encode_push p
    · revert p
      exact forall_field2 (fun _ => rfl) rfl rfl rfl
  · rintro rfl -
    exact encode_aluImm y
  · rintro rfl -
    exact encode_rst y

theorem primary_encodedBy (op : Byte) : (primary op).EncodedBy op := by
  have h0 := primaryX0_encodedBy (op := op)
  have h3 := primaryX3_encodedBy (op := op)
  have hop := opcode_fields op
  unfold primary
  generalize fieldX op = x at h0 h3 hop ⊢
  revert x
  apply forall_field2
  · exact fun h0 _ _ => h0 rfl
  · exact fun _ _ hop => (encode_ld _ _).trans (congrArg ([·]) hop)
  · exact fun _ _ hop => (encode_alu _ _).trans (congrArg ([·]) hop)
  · exact fun _ h3 _ => h3 rfl

theorem encode_extended (key : Byte) : encode (extended key) = [0xCB#8, key] := by
  have hkey := opcode_fields key
  unfold extended
  generalize fieldX key = x, fieldY key = y, fieldZ key = z at hkey ⊢
  subst hkey
  revert x
  exact forall_field2 (encode_rot y z) (encode_testBit y z) (encode_resetBit y z) (encode_setBit y z)

/-! ## The two halves of the round trip -/

/-- What is decoded encodes to the bytes it was read from. -/
theorem eq_encode_append_of_decode {bytes rest : List Byte} {i : Instr} (h : decode bytes = .ok (i, rest)) :
    bytes = encode i ++ rest := by
  cases bytes with
  | nil => cases h
  | cons op bytes =>
    have hop := primary_encodedBy op
    unfold decode at h
    dsimp only at h
    generalize primary op = entry at hop h
    split at h
    case h_1 =>
      cases h
      rw [hop]
      rfl
    case h_2 f v rest =>
      cases h
      rw [hop v]
      rfl
    case h_3 f lo hi rest =>
      cases h
      rw [hop (joinBytes hi lo), lowByte_joinBytes, highByte_joinBytes]
      rfl
    case h_4 key rest =>
      cases h
      rw [encode_extended, show op = 0xCB#8 from hop]
      rfl
    all_goals cases h

/-- Settles O1: the decoder reads back every encoding, whatever follows it. -/
theorem decodeInvertsEncode : Obligations.DecodeInvertsEncode := decode_encode_append

/-- Settles O2, entry by entry of the two tables: what an entry makes encodes to the entry's opcode and the immediate read. -/
theorem encodeInvertsDecode : Obligations.EncodeInvertsDecode := fun _ _ _ => eq_encode_append_of_decode

/-! ## The illegal opcodes (R95, spec/40_step_and_dispatch.md R119) -/

/-- The default IMPL lacks a primary opcode exactly where the table has a row without an entry. -/
theorem impl_primary_iff (op : Byte) : Config.standard.impl false op = true ↔ op ∉ illegalOpcodes := by
  revert op
  decide

theorem primary_of_impl_eq_false {op : Byte} (h : Config.standard.impl false op = false) :
    ∃ i, primary op = .plain i ∧ i.wellFormed = false := by
  simp only [Config.standard, defaultImpl, Bool.false_or] at h
  split at h
  case h_1 i hi => exact ⟨i, hi, h⟩
  case h_2 => cases h

/-- An instruction whose bytes begin with an illegal opcode is the ill-formed one that the opcode decodes to. -/
theorem wellFormed_eq_false_of_encode {i : Instr} {op : Byte} {bytes : List Byte} (hop : op ∈ illegalOpcodes)
    (hbytes : encode i = op :: bytes) : i.wellFormed = false := by
  have himpl : Config.standard.impl false op = false :=
    Bool.eq_false_iff.mpr fun h => (impl_primary_iff op).mp h hop
  obtain ⟨j, hj, hill⟩ := primary_of_impl_eq_false himpl
  have hdecode := decode_encode_append i []
  rw [hbytes, List.append_nil] at hdecode
  simp only [decode, hj] at hdecode
  cases hdecode
  exact hill

theorem not_wellFormed_iff (i : Instr) : ¬ WellFormed i ↔ ∃ op, op ∈ illegalOpcodes ∧ encode i = [op] := by
  constructor
  · intro hi
    cases i with
    | illegalD3 | illegalDB | illegalDD | illegalE3 | illegalE4 | illegalEB | illegalEC | illegalED | illegalF4
    | illegalFC | illegalFD => exact ⟨_, by decide, rfl⟩
    | _ => exact absurd rfl hi
  · rintro ⟨op, hop, hbytes⟩
    exact Bool.eq_false_iff.mp (wellFormed_eq_false_of_encode hop hbytes)

theorem impl_key_of_wellFormed {i : Instr} (hi : WellFormed i) : Config.standard.impl i.key.1 i.key.2 = true := by
  unfold Instr.key
  split
  case h_1 => rfl
  case h_2 op bytes hbytes =>
    split
    · rfl
    · refine (impl_primary_iff op).mpr fun hop => ?_
      exact absurd hi (Bool.eq_false_iff.mp (wellFormed_eq_false_of_encode hop hbytes))

/-- Settles O3: an illegal opcode decodes to its own ill-formed instruction, and no other row of the tables lacks an entry. -/
theorem illegalOpcodesAreTheElevenHoles : Obligations.IllegalOpcodesAreTheElevenHoles :=
  ⟨not_wellFormed_iff, impl_primary_iff, fun _ => rfl, fun _ => impl_key_of_wellFormed⟩

/-! ## Fixed words and fields -/

/-- Settles O4: the decoder evaluated on each word; the escape alone is turned away (R98). -/
theorem decodeOfWrittenOutWords : Obligations.DecodeOfWrittenOutWords := by
  refine ⟨rfl, rfl, rfl, rfl, rfl, rfl, rfl, rfl, rfl, rfl, rfl, rfl, rfl, rfl, rfl, rfl, rfl, rfl, rfl, ?_⟩
  intro i rest h
  cases h

/-- Settles O23, index by index (R83, R86). -/
theorem operandFields : Obligations.OperandFields := fun _ _ =>
  ⟨rfl, rfl, rfl, rfl, rfl, rfl, rfl, rfl, rfl, rfl, rfl, rfl, rfl, rfl, rfl, rfl, rfl, rfl, rfl, rfl⟩

end Sys2Proof

/-! # Register pairs and the flag byte -/

namespace Sys2Proof.Machine

/-! ## Words and their halves (spec/40_step_and_dispatch.md R105, R106) -/

theorem toNat_joinBytes (hi lo : Byte) : (joinBytes hi lo).toNat = 256 * hi.toNat + lo.toNat := by
  have hhi := hi.isLt
  have hlo := lo.isLt
  have hor : hi.toNat <<< 8 ||| lo.toNat = hi.toNat <<< 8 + lo.toNat := (Nat.shiftLeft_add_eq_or_of_lt hlo _).symm
  rw [Nat.shiftLeft_eq] at hor
  simp only [joinBytes, BitVec.toNat_or, BitVec.toNat_shiftLeft, BitVec.toNat_setWidth, Nat.shiftLeft_eq]
  rw [Nat.mod_eq_of_lt (by omega), Nat.mod_eq_of_lt (a := lo.toNat) (by omega), Nat.mod_eq_of_lt (by omega), hor]
  omega

theorem highByte_eq_ofNat (v : Word) : highByte v = BitVec.ofNat 8 (v.toNat / 256) := by
  apply BitVec.eq_of_toNat_eq
  simp [highByte, Nat.shiftRight_eq_div_pow]

theorem lowByte_eq_ofNat (v : Word) : lowByte v = BitVec.ofNat 8 v.toNat := by
  apply BitVec.eq_of_toNat_eq
  simp [lowByte]

/-- The flag byte is Z, N, H, C in bits 7 to 4 above four zeros (spec/10_state.md R23). -/
theorem Flags.toNat_toByte (f : Flags) :
    f.toByte.toNat = 128 * num f.z + 64 * num f.n + 32 * num f.h + 16 * num f.c := by
  obtain ⟨z, n, h, c⟩ := f
  cases z <;> cases n <;> cases h <;> cases c <;> rfl

theorem Flags.ofByte_lowByte (v : Word) :
    Flags.ofByte (lowByte v) = ⟨v.getLsbD 7, v.getLsbD 6, v.getLsbD 5, v.getLsbD 4⟩ := by
  simp [Flags.ofByte, lowByte]

theorem State.toNat_rp2_af (s : State) :
    (s.rp2 .af).toNat =
      256 * s.a.toNat + 128 * num s.flags.z + 64 * num s.flags.n + 32 * num s.flags.h + 16 * num s.flags.c := by
  rw [State.rp2, toNat_joinBytes, Flags.toNat_toByte]
  omega

/-- Settles O24: a pair is read by joining its halves and written by splitting the word; AF's low half is the flag byte. -/
theorem pairAndFlagByteAccess : Obligations.PairAndFlagByteAccess := by
  intro s v
  refine ⟨toNat_joinBytes _ _, toNat_joinBytes _ _, toNat_joinBytes _ _, rfl, rfl, ?_, ?_, ?_, rfl, rfl, rfl, rfl,
    s.toNat_rp2_af, rfl, rfl, rfl, ?_⟩
  iterate 3
    · rw [← highByte_eq_ofNat, ← lowByte_eq_ofNat]
      rfl
  · rw [← highByte_eq_ofNat, ← Flags.ofByte_lowByte]
    rfl

end Sys2Proof.Machine

/-! # One step: what it charges, how it stops, and the instruction it runs -/

namespace Sys2Proof.Machine

/-! ## Charging a cost (spec/40_step_and_dispatch.md R102, R103) -/

theorem State.charged_eq_tick (cost : Byte) (s : State) : s.charged cost = tick cost s := by
  have hcoarse : BitVec.ofNat 8 (s.clkCoarse.toNat + cost.toNat / 4) =
      s.clkCoarse + BitVec.ofNat 8 (cost.toNat / 4) := by
    rw [BitVec.ofNat_add, BitVec.ofNat_toNat, BitVec.setWidth_eq]
  have hfine : BitVec.ofNat 8 (s.clkFine.toNat + cost.toNat) = s.clkFine + cost := by
    rw [BitVec.ofNat_add, BitVec.ofNat_toNat, BitVec.ofNat_toNat, BitVec.setWidth_eq, BitVec.setWidth_eq]
  rw [State.charged, hcoarse, hfine]
  rfl

/-- Settles O6: a halted step is the charge of cost 4 to the state after the overlay check. -/
theorem haltedStepOnlyCountsTime : Obligations.HaltedStepOnlyCountsTime := by
  intro cfg s hfault hhalted
  simp only [State.charged_eq_tick]
  exact ⟨stepWith_halted hfault hhalted, rfl, rfl, rfl⟩

/-! ## How a step stops (spec/60_exceptions.md R302) -/

section

variable {s : State} {r : Fault} {cfg : Config} {P : State → Prop}

theorem fetch8_fault_iff {f : Byte → State → Out} :
    fetch8 s f = .fault r ↔
      (s.peek s.pc = none ∧ raise (.invalidMemoryAccess s.pc .fetch) s = .fault r) ∨
      ∃ v, s.peek s.pc = some v ∧ f v { s with pc := s.pc + 1 } = .fault r := by
  cases h : s.peek s.pc with
  | none => simp [fetch8_none h]
  | some v => simp [fetch8_some h]

theorem settle_fault_iff {p : CostPair} {o : Out} : settle p o = .fault r ↔ o = .fault r := by
  cases o <;> simp [settle]

theorem enter_fault_iff {escaped : Bool} {key : Byte} {opAddr instrAddr : Word} {handler : State → Out} :
    enter cfg escaped key opAddr instrAddr s handler = .fault r ↔
      (cfg.impl escaped key = false ∧
        raise (.unimplementedInstruction escaped key opAddr instrAddr) s = .fault r) ∨
      (cfg.impl escaped key = true ∧ handler s = .fault r) := by
  cases h : cfg.impl escaped key with
  | false => simp [enter_absent h]
  | true => simp [enter_present h, settle_fault_iff]

/-- The answer of a running step that stopped: a condition was raised before the handler's own effects, when only `pc` had
moved, or the instruction raised it. -/
def StopsFrom (s : State) (r : Fault) : Prop :=
  (∃ c pc, raise c { s with pc := pc } = .fault r) ∨ ∃ i pc, exec i { s with pc := pc } = .fault r

theorem stopsFrom_fetch8 {f : Byte → State → Out} {pc : Word} (h : fetch8 { s with pc := pc } f = .fault r)
    (hf : ∀ v pc', f v { s with pc := pc' } = .fault r → StopsFrom s r) : StopsFrom s r := by
  obtain ⟨-, hraise⟩ | ⟨v, -, hv⟩ := fetch8_fault_iff.mp h
  · exact .inl ⟨_, _, hraise⟩
  · exact hf v _ hv

theorem stopsFrom_enter {escaped : Bool} {key : Byte} {opAddr instrAddr pc : Word} {handler : State → Out}
    (h : enter cfg escaped key opAddr instrAddr { s with pc := pc } handler = .fault r)
    (hhandler : handler { s with pc := pc } = .fault r → StopsFrom s r) : StopsFrom s r := by
  obtain ⟨-, hraise⟩ | ⟨-, hrun⟩ := enter_fault_iff.mp h
  · exact .inl ⟨_, _, hraise⟩
  · exact hhandler hrun

theorem stopsFrom_exec {i : Instr} {pc : Word} (h : exec i { s with pc := pc } = .fault r) : StopsFrom s r :=
  .inr ⟨i, pc, h⟩

/-- All a running step that stops can do. -/
theorem runInstruction_fault (h : runInstruction cfg s = .fault r) : StopsFrom s r := by
  unfold runInstruction at h
  refine stopsFrom_fetch8 (pc := s.pc) h fun op pc hop => ?_
  cases hentry : primary op with
  | escape =>
    simp only [hentry] at hop
    exact stopsFrom_fetch8 hop fun key pc hkey => stopsFrom_enter hkey stopsFrom_exec
  | plain i =>
    simp only [hentry] at hop
    exact stopsFrom_enter hop stopsFrom_exec
  | imm8 f =>
    simp only [hentry] at hop
    exact stopsFrom_enter hop fun hrun => stopsFrom_fetch8 hrun fun v pc => stopsFrom_exec
  | imm16 f =>
    simp only [hentry] at hop
    exact stopsFrom_enter hop fun hrun =>
      stopsFrom_fetch8 hrun fun lo pc hlo => stopsFrom_fetch8 hlo fun hi pc => stopsFrom_exec

/-- Without a recorded fault a step depends on the state after the overlay check alone. -/
theorem stepWith_congr {t : State} (hs : s.fault = none) (ht : t.fault = none)
    (h : bootUnmapCheck s = bootUnmapCheck t) : stepWith cfg s = stepWith cfg t := by
  simp only [stepWith, hs, ht, h]

theorem stepWith_fault (hfault : s.fault = none) (h : stepWith cfg s = .fault r) : StopsFrom (bootUnmapCheck s) r := by
  cases hhalted : s.halted with
  | true =>
    rw [stepWith_halted hfault hhalted] at h
    cases h
  | false =>
    rw [stepWith_running hfault hhalted] at h
    exact runInstruction_fault h

theorem Closed.setPc (hP : Closed P) (hs : P s) (pc : Word) : P { s with pc := pc } :=
  hP.regs hs ⟨rfl, rfl, rfl, rfl, rfl, rfl, rfl⟩

/-- A closed property of the state after the overlay check holds of the state whose cost a step charges. -/
theorem Closed.stepWith_next {t : State} (hP : Closed P) (hs : P (bootUnmapCheck s))
    (h : stepWith cfg s = .next t) : ∃ cost u, P u ∧ tick cost u = t := by
  obtain ⟨-, -, ht⟩ | ⟨-, i, pc, escaped, key, u, -, hexec, ht⟩ := stepWith_next_cases h
  · exact ⟨_, _, hs, ht⟩
  · exact ⟨_, u, hP.exec_next (hP.setPc hs pc) hexec, ht⟩

/-- A closed property of the state after the overlay check holds of the state a step stops in, its fault status apart. -/
theorem Closed.stepWith_fault (hP : Closed P) (hs : P (bootUnmapCheck s)) (hfault : s.fault = none)
    (h : stepWith cfg s = .fault r) : ∃ c u, P u ∧ r = .fatal c { u with fault := some c } := by
  obtain ⟨c, pc, hraise⟩ | ⟨i, pc, hexec⟩ := Machine.stepWith_fault hfault h
  · exact ⟨c, _, hP.setPc hs pc, (Host.Outcome.fault.inj hraise).symm⟩
  · exact hP.exec_fault (hP.setPc hs pc) hexec

theorem closed_bootActive (b : Bool) : Closed fun t => t.bootActive = b where
  regs h hr := hr.bootActive.trans h
  poke h hp := (State.poke_bootActive hp).trans h

theorem bootUnmapCheck_of_le (hpc : 0x0100 ≤ s.pc.toNat) : bootUnmapCheck s = { s with bootActive := false } := by
  simp [bootUnmapCheck_eq, Nat.not_lt.mpr hpc]

end

/-- Settles O8: from 0x0100 on both steps begin with the overlay unmapped; and nothing after the overlay check writes the
flag. -/
theorem bootOverlayUnmapsBeforeFetch : Obligations.BootOverlayUnmapsBeforeFetch := by
  intro cfg s hfault
  refine ⟨fun hpc => ?_, fun t hstep => ?_, fun c t hstep => ?_⟩
  · have hcheck : bootUnmapCheck { s with bootActive := false } = { s with bootActive := false } :=
      bootUnmapCheck_of_le (s := { s with bootActive := false }) hpc
    exact stepWith_congr hfault hfault ((bootUnmapCheck_of_le hpc).trans hcheck.symm)
  · rw [← bootUnmapCheck_bootActive]
    obtain ⟨cost, u, hu, rfl⟩ := (closed_bootActive _).stepWith_next rfl hstep
    exact hu
  · rw [← bootUnmapCheck_bootActive]
    obtain ⟨c', u, hu, heq⟩ := (closed_bootActive _).stepWith_fault rfl hfault hstep
    cases heq
    exact hu

end Sys2Proof.Machine

namespace Sys2Proof

open Sys2Proof.Machine

/-! ## Bytes, entries and keys of one instruction (spec/30_encoding.md R80, R98) -/

theorem Instr.key_of_encode {i : Instr} {op : Byte} {bytes : List Byte} (hop : op ≠ 0xCB#8)
    (h : encode i = op :: bytes) : i.key = (false, op) := by
  simp [Instr.key, h, hop]

theorem Instr.key_of_encode_escape {i : Instr} {key : Byte} (h : encode i = [0xCB#8, key]) : i.key = (true, key) := by
  simp [Instr.key, h]

theorem encode_eq_of_decode {bytes : List Byte} {i : Instr} (h : decode bytes = .ok (i, [])) : encode i = bytes := by
  simpa using (eq_encode_append_of_decode h).symm

theorem eq_escape_of_primary {op : Byte} (h : primary op = .escape) : op = 0xCB#8 := by
  have hop := primary_encodedBy op
  rwa [h] at hop

theorem ne_escape_of_primary {op : Byte} {entry : Entry} (h : primary op = entry) (hentry : entry ≠ .escape) :
    op ≠ 0xCB#8 := by
  rintro rfl
  exact hentry h.symm

end Sys2Proof

namespace Sys2Proof.Machine

/-! ## The instruction a step runs (spec/40_step_and_dispatch.md R100, R101) -/

section

variable {s : State} {cfg : Config}

theorem State.holdsBytes_cons {addr : Word} {v : Byte} {bytes : List Byte} (h : s.holdsBytes addr (v :: bytes)) :
    s.peek addr = some v ∧ s.holdsBytes (addr + 1) bytes := by
  refine ⟨by simpa using h 0 (by simp), fun k hk => ?_⟩
  have hsucc : addr + 1 + BitVec.ofNat 16 k = addr + BitVec.ofNat 16 (k + 1) := by
    rw [BitVec.ofNat_add, BitVec.add_assoc, BitVec.add_comm 1]
    rfl
  rw [hsucc]
  exact h (k + 1) (by simpa using hk)

/-! Where the bytes at `pc` are the whole of an instruction that has an entry, the step is that instruction with `pc` past
them, settled at the entry's cost. -/

theorem runInstruction_plain {op : Byte} {i : Instr} (hentry : primary op = .plain i) (himpl : cfg.impl false op = true)
    (hop : s.peek s.pc = some op) :
    runInstruction cfg s = settle (cfg.cost false op) (exec i { s with pc := s.pc + 1 }) := by
  rw [runInstruction, fetch8_some hop]
  simp only [hentry, enter_present himpl]

theorem runInstruction_imm8 {op v : Byte} {f : Byte → Instr} (hentry : primary op = .imm8 f)
    (himpl : cfg.impl false op = true) (hop : s.peek s.pc = some op) (hv : s.peek (s.pc + 1) = some v) :
    runInstruction cfg s = settle (cfg.cost false op) (exec (f v) { s with pc := s.pc + 1 + 1 }) := by
  rw [runInstruction, fetch8_some hop]
  simp only [hentry, enter_present himpl]
  rw [fetch8_some (s := { s with pc := s.pc + 1 }) hv]

theorem runInstruction_imm16 {op lo hi : Byte} {f : Word → Instr} (hentry : primary op = .imm16 f)
    (himpl : cfg.impl false op = true) (hop : s.peek s.pc = some op) (hlo : s.peek (s.pc + 1) = some lo)
    (hhi : s.peek (s.pc + 1 + 1) = some hi) :
    runInstruction cfg s =
      settle (cfg.cost false op) (exec (f (joinBytes hi lo)) { s with pc := s.pc + 1 + 1 + 1 }) := by
  rw [runInstruction, fetch8_some hop]
  simp only [hentry, enter_present himpl]
  rw [fetch16, fetch8_some (s := { s with pc := s.pc + 1 }) hlo, fetch8_some (s := { s with pc := s.pc + 1 + 1 }) hhi]

theorem runInstruction_extended {op key : Byte} (hentry : primary op = .escape) (himpl : cfg.impl true key = true)
    (hop : s.peek s.pc = some op) (hkey : s.peek (s.pc + 1) = some key) :
    runInstruction cfg s = settle (cfg.cost true key) (exec (extended key) { s with pc := s.pc + 1 + 1 }) := by
  rw [runInstruction, fetch8_some hop]
  simp only [hentry]
  rw [fetch8_some (s := { s with pc := s.pc + 1 }) hkey, enter_present himpl]

/-- A running step at the bytes of an instruction is that instruction, settled. -/
theorem runInstruction_of_decode {bytes : List Byte} {i : Instr} (hheld : s.holdsBytes s.pc bytes)
    (hdecode : decode bytes = .ok (i, [])) (himpl : cfg.impl i.key.1 i.key.2 = true) :
    runInstruction cfg s =
      settle (cfg.cost i.key.1 i.key.2) (exec i { s with pc := s.pc + BitVec.ofNat 16 bytes.length }) := by
  have hbytes := encode_eq_of_decode hdecode
  cases bytes with
  | nil => cases hdecode
  | cons op bytes =>
    obtain ⟨hop, himm⟩ := State.holdsBytes_cons hheld
    clear hheld
    unfold decode at hdecode
    dsimp only at hdecode
    split at hdecode
    case h_1 j rest hentry =>
      cases hdecode
      rw [Instr.key_of_encode (ne_escape_of_primary hentry nofun) hbytes] at himpl ⊢
      exact runInstruction_plain hentry himpl hop
    case h_2 f v rest hentry =>
      cases hdecode
      obtain ⟨hv, -⟩ := State.holdsBytes_cons himm
      rw [Instr.key_of_encode (ne_escape_of_primary hentry nofun) hbytes] at himpl ⊢
      rw [runInstruction_imm8 hentry himpl hop hv, BitVec.add_assoc]
      rfl
    case h_3 f lo hi rest hentry =>
      cases hdecode
      obtain ⟨hlo, himm⟩ := State.holdsBytes_cons himm
      obtain ⟨hhi, -⟩ := State.holdsBytes_cons himm
      rw [Instr.key_of_encode (ne_escape_of_primary hentry nofun) hbytes] at himpl ⊢
      rw [runInstruction_imm16 hentry himpl hop hlo hhi, BitVec.add_assoc, BitVec.add_assoc]
      rfl
    case h_4 key rest hentry =>
      cases hdecode
      obtain ⟨hkey, -⟩ := State.holdsBytes_cons himm
      rw [eq_escape_of_primary hentry] at hbytes
      rw [Instr.key_of_encode_escape hbytes] at himpl ⊢
      rw [runInstruction_extended hentry himpl hop hkey, BitVec.add_assoc]
      rfl
    all_goals cases hdecode

end

/-- Settles O5: the step is the decoded instruction settled at its cost, and no instruction is refused. -/
theorem stepRunsDecodedInstruction : Obligations.StepRunsDecodedInstruction := by
  intro s bytes i hrunning hheld hdecode hwf
  have hstep : step s = settle i.costs
      (exec i { bootUnmapCheck s with pc := s.pc + BitVec.ofNat 16 bytes.length }) := by
    rw [← bootUnmapCheck_pc] at hheld ⊢
    exact (stepWith_running hrunning.fault hrunning.halted).trans
      (runInstruction_of_decode hheld hdecode (impl_key_of_wellFormed hwf))
  refine ⟨fun t ht => ?_, fun f hf => ?_, fun r => exec_ne_refused i _ r⟩
  · rw [hstep, ht, settle_next, State.charged_eq_tick]
    rfl
  · rw [hstep, hf, settle_fault]

end Sys2Proof.Machine

/-! # Who writes the flags and `notTaken` -/

namespace Sys2Proof

open Sys2Proof.Machine

/-! ## The instructions that write a flag, form by form -/

theorem Instr.writesFlags_alu (op : AluOp) (z : R8) : (Instr.alu op z).WritesFlags := .inl ⟨op, z, rfl⟩

theorem Instr.writesFlags_aluImm (op : AluOp) (v : Byte) : (Instr.aluImm op v).WritesFlags := .inr <| .inl ⟨op, v, rfl⟩

theorem Instr.writesFlags_inc (z : R8) : (Instr.inc z).WritesFlags := .inr <| .inr <| .inl ⟨z, rfl⟩

theorem Instr.writesFlags_dec (z : R8) : (Instr.dec z).WritesFlags := .inr <| .inr <| .inr <| .inl ⟨z, rfl⟩

theorem Instr.writesFlags_accumulator (y : BitVec 3) : (Instr.accumulator y).WritesFlags := by
  iterate 4 right
  exact .inl ⟨y, rfl⟩

theorem Instr.writesFlags_addHl (p : Rp) : (Instr.addHl p).WritesFlags := by
  iterate 5 right
  exact .inl ⟨p, rfl⟩

theorem Instr.writesFlags_addSpE8 (e : Byte) : (Instr.addSpE8 e).WritesFlags := by
  iterate 6 right
  exact .inl ⟨e, rfl⟩

theorem Instr.writesFlags_ldHlSpE8 (e : Byte) : (Instr.ldHlSpE8 e).WritesFlags := by
  iterate 7 right
  exact .inl ⟨e, rfl⟩

theorem Instr.writesFlags_popAf : Instr.popAf.WritesFlags := by
  iterate 8 right
  exact .inl rfl

theorem Instr.writesFlags_rot (op : RotOp) (z : R8) : (Instr.rot op z).WritesFlags := by
  iterate 9 right
  exact .inl ⟨op, z, rfl⟩

theorem Instr.writesFlags_testBit (y : BitVec 3) (z : R8) : (Instr.testBit y z).WritesFlags := by
  iterate 10 right
  exact ⟨y, z, rfl⟩

end Sys2Proof

namespace Sys2Proof.Machine

/-- The flags and the conditional-not-taken flag (spec/10_state.md R23, R24). -/
def State.status (s : State) : Flags × Bool := (s.flags, s.notTaken)

section

variable {s t : State}

theorem State.status_poke {addr : Word} {v : Byte} (h : s.poke addr v = some t) : t.status = s.status := by
  rw [State.poke_frame h]
  rfl

theorem State.status_setR8 {z : R8} {v : Byte} (h : s.setR8 z v = some t) : t.status = s.status := by
  obtain ⟨-, hpoke⟩ | ⟨-, ht⟩ := State.setR8_cases h
  · exact State.status_poke hpoke
  · rw [ht]
    rfl

theorem State.status_setRp (p : Rp) (v : Word) : (s.setRp p v).status = s.status := by cases p <;> rfl

/-! ## The shared forms -/

theorem status_next {u : State} {x : Flags × Bool} (h : (.next u : Out) = .next t) (hu : u.status = x) :
    t.status = x := by
  cases h
  exact hu

theorem status_loadR8 {dst src : R8} (h : loadR8 dst src s = .next t) : t.status = s.status := by
  obtain ⟨v, -, hset⟩ := loadR8_next_iff.mp h
  exact State.status_setR8 hset

/-- A read-modify-write form writes the flags it computes. -/
theorem status_modifyR8 {g : Byte → Flags → Byte × Flags} {z : R8} (h : modifyR8 g z s = .next t) :
    ∃ v, t.status = ((g v s.flags).2, s.notTaken) := by
  obtain ⟨v, -, hset⟩ := modifyR8_next_iff.mp h
  exact ⟨v, State.status_setR8 hset⟩

theorem status_clearBitR8 {n : Nat} {z : R8} (h : clearBitR8 n z s = .next t) : t.status = s.status :=
  (status_modifyR8 h).choose_spec

theorem status_assertBitR8 {n : Nat} {z : R8} (h : assertBitR8 n z s = .next t) : t.status = s.status :=
  (status_modifyR8 h).choose_spec

theorem status_loadA {addr : Word} (h : loadA addr s = .next t) : t.status = s.status := by
  obtain ⟨v, -, rfl⟩ := loadA_next_iff.mp h
  rfl

theorem status_loadAThen {hl : Word} (h : loadAThen hl s = .next t) : t.status = s.status := by
  obtain ⟨v, -, rfl⟩ := loadAThen_next_iff.mp h
  rfl

theorem status_storeA {addr : Word} (h : storeA addr s = .next t) : t.status = s.status :=
  State.status_poke (storeA_next_iff.mp h)

theorem status_storeAThen {hl : Word} (h : storeAThen hl s = .next t) : t.status = s.status := by
  obtain ⟨u, hpoke, rfl⟩ := storeAThen_next_iff.mp h
  calc (u.setHl hl).status = u.status := rfl
    _ = s.status := State.status_poke hpoke

theorem status_writeWord {addr v : Word} (h : writeWord addr v s .next = .next t) : t.status = s.status := by
  obtain ⟨u, w, hlo, hhi, hw⟩ := writeWord_next_iff.mp h
  exact status_next hw ((State.status_poke hhi).trans (State.status_poke hlo))

theorem status_push {v : Word} {f : State → Out} (h : push v s f = .next t)
    (hf : ∀ {w}, f w = .next t → t.status = w.status) : t.status = s.status := by
  obtain ⟨u, w, hhi, hlo, hw⟩ := push_next_iff.mp h
  calc t.status = w.status := hf hw
    _ = u.status := (State.status_poke hlo).trans rfl
    _ = s.status := (State.status_poke hhi).trans rfl

theorem status_callTo {target : Word} (h : callTo target s = .next t) : t.status = s.status :=
  status_push h fun hw => status_next hw rfl

theorem status_returnFrom (h : returnFrom s = .next t) : t.status = s.status := by
  obtain ⟨lo, hi, -, -, rfl⟩ := returnFrom_next_iff.mp h
  rfl

theorem status_reti (h : exec .reti s = .next t) : t.status = s.status := by
  have hpop : pop s (fun a u => .next { u with pc := a, ime := true }) = .next t := h
  obtain ⟨lo, hi, -, -, ht⟩ := pop_next_iff.mp hpop
  exact status_next ht rfl

theorem status_loadA_block (p : BitVec 2) (h : exec (.loadA p) s = .next t) : t.status = s.status := by
  revert p
  exact forall_field2 status_loadA status_loadA status_loadAThen status_loadAThen

theorem status_storeA_block (p : BitVec 2) (h : exec (.storeA p) s = .next t) : t.status = s.status := by
  revert p
  exact forall_field2 status_storeA status_storeA status_storeAThen status_storeAThen

theorem notTaken_next {u : State} (h : (.next u : Out) = .next t) (hu : u.notTaken = s.notTaken) :
    t.notTaken = s.notTaken := by
  cases h
  exact hu

theorem notTaken_accumulator (y : BitVec 3) (h : exec (.accumulator y) s = .next t) : t.notTaken = s.notTaken := by
  revert y
  apply forall_field3 <;> exact fun h => notTaken_next h rfl

/-! ## Every instruction -/

/-- A flag changes only under the instructions that write one, `notTaken` only under an untaken conditional transfer. -/
structure StatusFrame (i : Instr) (s t : State) : Prop where
  flags : t.flags = s.flags ∨ i.WritesFlags
  notTaken : t.notTaken = s.notTaken ∨ ∃ cc, i.IsConditional cc ∧ s.holds cc = false

theorem StatusFrame.of_status_eq {i : Instr} (h : t.status = s.status) : StatusFrame i s t :=
  ⟨.inl (congrArg Prod.fst h), .inl (congrArg Prod.snd h)⟩

theorem StatusFrame.of_writesFlags {i : Instr} (hi : i.WritesFlags) (h : t.notTaken = s.notTaken) :
    StatusFrame i s t := ⟨.inr hi, .inl h⟩

theorem StatusFrame.of_modifyR8 {i : Instr} {g : Byte → Flags → Byte × Flags} {z : R8} (hi : i.WritesFlags)
    (h : modifyR8 g z s = .next t) : StatusFrame i s t := by
  obtain ⟨v, hv⟩ := status_modifyR8 h
  exact .of_writesFlags hi (congrArg Prod.snd hv)

theorem StatusFrame.of_onCond {i : Instr} {cc : Cond} {f : State → Out} (hi : i.IsConditional cc)
    (h : onCond cc f s = .next t) (hf : f s = .next t → t.status = s.status) : StatusFrame i s t := by
  obtain ⟨-, htaken⟩ | ⟨hcc, rfl⟩ := onCond_next_iff.mp h
  · exact .of_status_eq (hf htaken)
  · exact ⟨.inl rfl, .inr ⟨cc, hi, hcc⟩⟩

theorem StatusFrame.pop (p : Rp2) (h : exec (.pop p) s = .next t) : StatusFrame (.pop p) s t := by
  obtain ⟨lo, hi, -, -, rfl⟩ := popPair_next_iff.mp (exec_pop s p ▸ h)
  cases p with
  | af => exact .of_writesFlags Instr.writesFlags_popAf rfl
  | bc | de | hl => exact .of_status_eq rfl

theorem exec_statusFrame {i : Instr} (h : exec i s = .next t) : StatusFrame i s t := by
  cases i.block with
  | nop | halt | stop _ | di | ei | jpHl | ldSpHl | jpA16 _ | jrE8 _ => exact .of_status_eq (status_next h rfl)
  | ldPair p v => exact .of_status_eq (status_next (exec_ldPair s p v ▸ h) (State.status_setRp p _))
  | incPair p => exact .of_status_eq (status_next (exec_incPair s p ▸ h) (State.status_setRp p _))
  | decPair p => exact .of_status_eq (status_next (exec_decPair s p ▸ h) (State.status_setRp p _))
  | ld dst src hne => exact .of_status_eq (status_loadR8 (exec_ld s hne ▸ h))
  | ldImm z v => exact .of_status_eq (State.status_setR8 (loadImm_next_iff.mp (exec_ldImm s z v ▸ h)))
  | loadA p => exact .of_status_eq (status_loadA_block p h)
  | storeA p => exact .of_status_eq (status_storeA_block p h)
  | ldhAAtA8 _ | ldAAtC | ldAAtA16 _ => exact .of_status_eq (status_loadA h)
  | ldhAtA8A _ | ldAtCA | ldAtA16A _ => exact .of_status_eq (status_storeA h)
  | ldAtA16Sp _ => exact .of_status_eq (status_writeWord h)
  | push p => exact .of_status_eq (status_push (exec_push s p ▸ h) fun hw => status_next hw rfl)
  | callA16 _ => exact .of_status_eq (status_callTo h)
  | rst y => exact .of_status_eq (status_callTo (exec_rst s y ▸ h))
  | ret => exact .of_status_eq (status_returnFrom h)
  | reti => exact .of_status_eq (status_reti h)
  | resetBit y z => exact .of_status_eq (status_clearBitR8 (exec_resetBit s y z ▸ h))
  | setBit y z => exact .of_status_eq (status_assertBitR8 (exec_setBit s y z ▸ h))
  | illegal hi => exact absurd h (exec_ne_next_of_illegal hi)
  | jr cc e =>
    rw [exec_jr] at h
    exact .of_onCond (.inl ⟨e, rfl⟩) h fun htaken => status_next htaken rfl
  | jp cc a =>
    rw [exec_jp] at h
    exact .of_onCond (.inr (.inl ⟨a, rfl⟩)) h fun htaken => status_next htaken rfl
  | call cc a => exact .of_onCond (.inr (.inr (.inl ⟨a, rfl⟩))) (exec_call s cc a ▸ h) status_callTo
  | retIf cc => exact .of_onCond (.inr (.inr (.inr rfl))) (exec_retIf s cc ▸ h) status_returnFrom
  | pop p => exact .pop p h
  | accumulator y => exact .of_writesFlags (Instr.writesFlags_accumulator y) (notTaken_accumulator y h)
  | addSpE8 e => exact .of_writesFlags (Instr.writesFlags_addSpE8 e) (notTaken_next h rfl)
  | ldHlSpE8 e => exact .of_writesFlags (Instr.writesFlags_ldHlSpE8 e) (notTaken_next h rfl)
  | addHl p =>
    rw [exec_addHl] at h
    exact .of_writesFlags (Instr.writesFlags_addHl p) (notTaken_next h rfl)
  | aluImm op v =>
    rw [exec_aluImm] at h
    exact .of_writesFlags (Instr.writesFlags_aluImm op v) (notTaken_next h rfl)
  | alu op z =>
    obtain ⟨v, -, rfl⟩ := aluR8_next_iff.mp (exec_alu s op z ▸ h)
    exact .of_writesFlags (Instr.writesFlags_alu op z) rfl
  | testBit y z =>
    obtain ⟨v, -, rfl⟩ := testBitR8_next_iff.mp (exec_testBit s y z ▸ h)
    exact .of_writesFlags (Instr.writesFlags_testBit y z) rfl
  | inc z => exact .of_modifyR8 (Instr.writesFlags_inc z) (exec_inc s z ▸ h)
  | dec z => exact .of_modifyR8 (Instr.writesFlags_dec z) (exec_dec s z ▸ h)
  | rot op z => exact .of_modifyR8 (Instr.writesFlags_rot op z) (exec_rot s op z ▸ h)

/-- A conditional transfer whose condition fails does nothing but set `notTaken` (R116). -/
theorem exec_of_not_holds {i : Instr} {cc : Cond} (hi : i.IsConditional cc) (hcc : s.holds cc = false) :
    exec i s = .next { s with notTaken := true } := by
  have huntaken (f : State → Out) : onCond cc f s = .next { s with notTaken := true } :=
    onCond_next_iff.mpr (.inr ⟨hcc, rfl⟩)
  obtain ⟨e, rfl⟩ | ⟨a, rfl⟩ | ⟨a, rfl⟩ | rfl := hi
  · rw [exec_jr, huntaken]
  · rw [exec_jp, huntaken]
  · rw [exec_call, huntaken]
  · rw [exec_retIf, huntaken]

end

/-- Settles O13: a failed condition sets `notTaken`, and the block-by-block frame leaves no other way to set it. -/
theorem onlyUntakenConditionalsSetNotTaken : Obligations.OnlyUntakenConditionalsSetNotTaken := by
  intro i s t hs h
  constructor
  · intro ht
    refine (exec_statusFrame h).notTaken.resolve_left fun hkept => ?_
    rw [ht, hs] at hkept
    cases hkept
  · rintro ⟨cc, hi, hcc⟩
    rw [exec_of_not_holds hi hcc] at h
    cases h
    rfl

/-- Settles O15: by the same frame, and because the charge of a cost names no flag. -/
theorem flagsWrittenOnlyByTheirInstructions : Obligations.FlagsWrittenOnlyByTheirInstructions :=
  ⟨fun _ _ _ hi h => (exec_statusFrame h).flags.resolve_right hi, fun _ _ => rfl⟩

end Sys2Proof.Machine

/-! # The stack -/

namespace Sys2Proof

open Sys2Proof.Machine

/-- An encoding decodes to its instruction, so the encoder alone gives `HasEncoding` (spec/30_encoding.md R80). -/
theorem hasEncoding_of_encode {i : Instr} {bytes : List Byte} (h : encode i = bytes) : HasEncoding i bytes := by
  refine ⟨h, ?_⟩
  rw [← h, ← List.append_nil (encode i)]
  exact decode_encode_append i []

end Sys2Proof

namespace Sys2Proof.Machine

section

variable {s t u : State} {v : Word} {f : State → Out}

/-! ## PUSH (spec/40_step_and_dispatch.md R108) -/

theorem State.poke_sp {addr : Word} {b : Byte} (h : s.poke addr b = some t) : t.sp = s.sp := by
  rw [State.poke_frame h]

/-- Where the first write is answered, the second is that of the low byte at SP - 2. -/
theorem push_of_poke_high (hhigh : { s with sp := s.sp - 1 }.poke (s.sp - 1) (highByte v) = some t) :
    push v s f = writeByte (s.sp - 2) (lowByte v) { t with sp := s.sp - 2 } f := by
  have hsp : t.sp = s.sp - 1 := State.poke_sp hhigh
  have hsub : s.sp - 1 - 1 = s.sp - 2 := by bv_omega
  simp only [push, writeByte_some hhigh, hsp, hsub]

theorem push_of_poke (hhigh : { s with sp := s.sp - 1 }.poke (s.sp - 1) (highByte v) = some t)
    (hlow : { t with sp := s.sp - 2 }.poke (s.sp - 2) (lowByte v) = some u) : push v s f = f u := by
  rw [push_of_poke_high hhigh, writeByte_some hlow]

theorem push_of_poke_high_none (hhigh : { s with sp := s.sp - 1 }.poke (s.sp - 1) (highByte v) = none) :
    push v s f = stoppedAt (.invalidMemoryAccess (s.sp - 1) .write) { s with sp := s.sp - 1 } :=
  writeByte_none hhigh

theorem push_of_poke_low_none (hhigh : { s with sp := s.sp - 1 }.poke (s.sp - 1) (highByte v) = some t)
    (hlow : { t with sp := s.sp - 2 }.poke (s.sp - 2) (lowByte v) = none) :
    push v s f = stoppedAt (.invalidMemoryAccess (s.sp - 2) .write) { t with sp := s.sp - 2 } := by
  rw [push_of_poke_high hhigh]
  exact writeByte_none hlow

/-! ## POP after PUSH (R109) -/

theorem pop_of_peek {lo hi : Byte} {f : Word → State → Out} (hlo : s.peek s.sp = some lo)
    (hhi : s.peek (s.sp + 1) = some hi) : pop s f = f (joinBytes hi lo) { s with sp := s.sp + 2 } := by
  have hadd : s.sp + 1 + 1 = s.sp + 2 := by bv_omega
  rw [pop, readByte_some hlo, readByte_some (s := { s with sp := s.sp + 1 }) hhi, hadd]

/-- A pair written with its own value changes nothing; AF loses no flag (spec/10_state.md R23). -/
theorem State.setRp2_rp2 (s : State) (p : Rp2) : s.setRp2 p (s.rp2 p) = s := by
  cases p <;>
    simp [State.rp2, State.setRp2, State.bc, State.de, State.hl, State.setBc, State.setDe, State.setHl]

/-- A push changes nothing but SP, memory and the display. -/
theorem push_frame (hhigh : { s with sp := s.sp - 1 }.poke (s.sp - 1) (highByte v) = some t)
    (hlow : { t with sp := s.sp - 2 }.poke (s.sp - 2) (lowByte v) = some u) :
    u = { s with sp := s.sp - 2, mem := u.mem, display := u.display } := by
  rw [State.poke_frame hlow, State.poke_frame hhigh]

/-- In canonical memory a push to two mapped bytes, neither of them LY, completes and leaves the two bytes of its word. -/
theorem exists_push (hwf : s.mem.wf = true) (hhigh : s.peek (s.sp - 1) ≠ none) (hlow : s.peek (s.sp - 2) ≠ none)
    (hhigh_ly : s.sp - 1 ≠ 0xFF44#16) (hlow_ly : s.sp - 2 ≠ 0xFF44#16) (v : Word) :
    ∃ t, (∀ f, push v s f = f t) ∧ t = { s with sp := s.sp - 2, mem := t.mem, display := t.display } ∧
      t.peek (s.sp - 2) = some (lowByte v) ∧ t.peek (s.sp - 2 + 1) = some (highByte v) := by
  obtain ⟨u, hu⟩ := State.exists_poke (s := { s with sp := s.sp - 1 }) (highByte v) hhigh
  have hlow' : { u with sp := s.sp - 2 }.peek (s.sp - 2) ≠ none :=
    mt (State.peek_eq_none_iff_of_poke hu).mp hlow
  obtain ⟨t, ht⟩ := State.exists_poke (lowByte v) hlow'
  have hsucc : s.sp - 2 + 1 = s.sp - 1 := by bv_omega
  have hroute := route_succ_ne (mt State.peek_eq_none_iff.mpr hlow')
  have hwfu : u.mem.wf = true := State.poke_wf hu hwf
  have hlo : t.peek (s.sp - 2) = some (lowByte v) :=
    State.peek_poke_self (s := { u with sp := s.sp - 2 }) hwfu hlow_ly ht
  have hhi : u.peek (s.sp - 1) = some (highByte v) :=
    State.peek_poke_self (s := { s with sp := s.sp - 1 }) hwf hhigh_ly hu
  refine ⟨t, fun f => push_of_poke hu ht, push_frame hu ht, hlo, ?_⟩
  rw [State.peek_poke_of_ne ht hroute.symm, hsucc]
  exact hhi

end

end Sys2Proof.Machine

namespace Sys2Proof

open Sys2Proof.Machine

theorem hasCost_push (p : BitVec 2) : HasCost false (opcodePq 3#2 p 0#1 5#3) 16 16 := by
  revert p
  decide

/-- Settles O31: the clauses are the cases of a push, by which of its two writes are answered. (The name is taken in
`Sys2Proof.Machine` by the meaning of PUSH.) -/
theorem pushPair : Obligations.PushPair := by
  refine ⟨State.toNat_rp2_af, fun p => ?_⟩
  simp only [exec_push]
  refine ⟨hasEncoding_of_encode (encode_push p), hasCost_push p, fun s t u hhigh hlow => ?_,
    fun s => push_of_poke_high_none, fun s t => push_of_poke_low_none⟩
  exact ⟨push_of_poke hhigh hlow, State.poke_sp hlow⟩

end Sys2Proof

namespace Sys2Proof.Machine

/-- Settles O33: POP reads the two bytes PUSH left, in the other order. -/
theorem pushThenPop : Obligations.PushThenPop := by
  intro s p q hwf hhigh hlow hhigh_ly hlow_ly
  obtain ⟨t, hpush, hframe, hlo, hhi⟩ := exists_push hwf hhigh hlow hhigh_ly hlow_ly (s.rp2 p)
  have hsp : t.sp = s.sp - 2 := by rw [hframe]
  have hback : t.sp + 2 = s.sp := by bv_omega
  refine ⟨t, (exec_push s p).trans (hpush _), hsp, ?_, ?_⟩
  · rw [← hsp] at hlo hhi
    rw [exec_pop, popPair, pop_of_peek hlo hhi, hback, joinBytes_high_low]
  · rintro rfl
    have hrestored : { t with sp := s.sp } = { s with mem := t.mem, display := t.display } := by rw [hframe]
    have hpair : s.rp2 q = { s with mem := t.mem, display := t.display }.rp2 q := by cases q <;> rfl
    rw [hrestored, hpair, State.setRp2_rp2]

end Sys2Proof.Machine

/-! # 8-bit arithmetic and logic of A -/

namespace Sys2Proof.Machine

/-! ## Results and flags (spec/40_step_and_dispatch.md R110 to R113) -/

theorem add8_eq (a v : Byte) (cin : Bool) :
    add8 a v cin = (BitVec.ofNat 8 (a.toNat + v.toNat + num cin), addFlags a v (num cin)) := by
  have hzero (n : Nat) : decide (BitVec.ofNat 8 n = 0#8) = decide (n % 256 = 0) := by
    simp [← BitVec.toNat_inj]
  simp only [add8, hzero]
  rfl

theorem ofInt_sub_sub (a v : Byte) (n : Nat) :
    BitVec.ofInt 8 ((a.toNat : Int) - v.toNat - n) = a - v - BitVec.ofNat 8 n := by
  apply BitVec.eq_of_toNat_eq
  simp only [BitVec.toNat_ofInt, BitVec.toNat_sub, BitVec.toNat_ofNat]
  omega

theorem sub8_eq (a v : Byte) (bin : Bool) :
    sub8 a v bin = (a - v - BitVec.ofNat 8 (num bin), subFlags a v (num bin)) := by
  have hdiff : BitVec.ofInt 8 ((a.toNat : Int) - v.toNat - bit bin) = a - v - BitVec.ofNat 8 (num bin) :=
    ofInt_sub_sub a v (num bin)
  simp only [sub8, hdiff]
  rfl

/-! ## The block of the `alu` field: every operand (R160 to R183) -/

/-- The one immediate byte of an `imm8` entry is fetched before anything else is done (spec/30_encoding.md R99). -/
theorem immediateFetchStops_of_imm8 {op : Byte} {f : Byte → Instr} (hentry : primary op = .imm8 f) :
    ImmediateFetchStops op 1 := by
  intro s k hrunning hk hop _ hnone
  obtain rfl : k = 0 := by omega
  have himpl : Config.standard.impl false op = true := by simp [Config.standard, defaultImpl, hentry]
  have hpc : s.pc + 1 + BitVec.ofNat 16 0 = s.pc + 1 := by simp
  rw [hpc] at hnone ⊢
  rw [← bootUnmapCheck_pc] at hop hnone ⊢
  rw [step, stepWith_running hrunning.fault hrunning.halted, runInstruction, fetch8_some hop]
  simp only [hentry, enter_present himpl]
  rw [fetch8_none (s := { bootUnmapCheck s with pc := (bootUnmapCheck s).pc + 1 }) hnone]
  rfl

theorem primary_aluImm (y : BitVec 3) : primary (opcode 3#2 y 6#3) = .imm8 (.aluImm (.ofField y)) := by
  revert y
  exact forall_field3 rfl rfl rfl rfl rfl rfl rfl rfl

theorem hasCost_alu (y z : BitVec 3) :
    HasCost false (opcode 2#2 y z) (if z = 6#3 then 8 else 4) (if z = 6#3 then 8 else 4) := by
  revert y z
  decide

theorem hasCost_aluImm (y : BitVec 3) : HasCost false (opcode 3#2 y 6#3) 8 8 := by
  revert y
  decide

section

variable {s : State} {op : AluOp}

theorem exec_alu_some {z : R8} {v : Byte} (h : s.r8 z = some v) : exec (.alu op z) s = .next (aluWith op v s) := by
  rw [exec_alu, aluR8, readR8_some h]

theorem exec_alu_none {z : R8} (h : s.r8 z = none) :
    exec (.alu op z) s = stoppedAt (.invalidMemoryAccess s.hl .read) s := by
  rw [exec_alu, aluR8, readR8_none h]
  rfl

theorem aluWith_of_result {v : Byte} {r : Byte × Flags} (h : aluResult op s.a v s.flags = r) :
    aluWith op v s = { s with a := r.1, flags := r.2 } := by
  rw [aluWith, h]

end

/-- The row of the `alu` field `y` with an `r8` operand and with an immediate, `after` being the state it leaves. -/
theorem alu_row (y : BitVec 3) {after : State → Byte → State}
    (hafter : ∀ s v, aluWith (.ofField y) v s = after s v) :
    (∀ z : BitVec 3,
      HasEncoding (.alu (.ofField y) (.ofField z)) [opcode 2#2 y z] ∧
      HasCost false (opcode 2#2 y z) (if z = 6#3 then 8 else 4) (if z = 6#3 then 8 else 4) ∧
      (∀ (s : State) (v : Byte), s.r8 (.ofField z) = some v →
        exec (.alu (.ofField y) (.ofField z)) s = .next (after s v)) ∧
      (∀ s : State, s.r8 (.ofField z) = none →
        exec (.alu (.ofField y) (.ofField z)) s = stoppedAt (.invalidMemoryAccess s.hl .read) s)) ∧
    (∀ v : Byte,
      HasEncoding (.aluImm (.ofField y) v) [opcode 3#2 y 6#3, v] ∧ HasCost false (opcode 3#2 y 6#3) 8 8 ∧
      ImmediateFetchStops (opcode 3#2 y 6#3) 1 ∧
      ∀ s : State, exec (.aluImm (.ofField y) v) s = .next (after s v)) := by
  refine ⟨fun z => ⟨hasEncoding_of_encode (encode_alu y z), hasCost_alu y z, fun s v h => ?_, fun s => exec_alu_none⟩,
    fun v => ⟨hasEncoding_of_encode (encode_aluImm y v), hasCost_aluImm y,
      immediateFetchStops_of_imm8 (primary_aluImm y), fun s => ?_⟩⟩
  · rw [exec_alu_some h, hafter]
  · rw [exec_aluImm, aluImm, hafter]

/-- Settles O34: the results of ADD and ADC are the sum of two bytes and a carry, with its flags. -/
theorem addAndAddWithCarry : Obligations.AddAndAddWithCarry := by
  intro withCarry
  cases withCarry with
  | false => exact alu_row 0#3 fun s v => aluWith_of_result (op := .add) (add8_eq s.a v false)
  | true => exact alu_row 1#3 fun s v => aluWith_of_result (op := .adc) (add8_eq s.a v s.flags.c)

/-- Settles O35: the results of SUB, SBC and CP are the difference of two bytes and a borrow, with its flags; CP drops the
difference. -/
theorem subtractAndCompare : Obligations.SubtractAndCompare := by
  rintro op (rfl | rfl | rfl)
  · exact alu_row 2#3 fun s v => aluWith_of_result (op := .sub) (sub8_eq s.a v false)
  · exact alu_row 3#3 fun s v => aluWith_of_result (op := .sbc) (sub8_eq s.a v s.flags.c)
  · refine alu_row 7#3 fun s v => ?_
    have hresult : aluResult .cp s.a v s.flags = (s.a, subFlags s.a v 0) := by
      rw [aluResult, sub8_eq]
      rfl
    exact aluWith_of_result hresult

/-- Settles O36: AND, XOR and OR leave their formula by definition. -/
theorem logicalOperations : Obligations.LogicalOperations := by
  rintro op (rfl | rfl | rfl)
  · exact alu_row 4#3 fun _ _ => rfl
  · exact alu_row 5#3 fun _ _ => rfl
  · exact alu_row 6#3 fun _ _ => rfl

end Sys2Proof.Machine

/-! # Loads and stores -/

namespace Sys2Proof.Machine

/-! ## Operands, pairs and the high page -/

/-- The field of `(HL)` is 6 (spec/30_encoding.md R83). -/
theorem R8.ofField_eq_atHl_iff {y : BitVec 3} : R8.ofField y = .atHl ↔ y = 6#3 := by
  revert y
  decide

/-- The high-page address as a sum (spec/30_encoding.md R89). -/
theorem highPage_eq_add (n : Byte) : highPage n = 0xFF00#16 + n.setWidth 16 := by
  apply BitVec.eq_of_toNat_eq
  have hn := n.isLt
  simp only [highPage, toNat_joinBytes, BitVec.toNat_add, BitVec.toNat_setWidth, BitVec.toNat_ofNat]
  omega

theorem joinBytes_eq_ofNat (hi lo : Byte) : joinBytes hi lo = BitVec.ofNat 16 (256 * hi.toNat + lo.toNat) := by
  rw [← toNat_joinBytes, BitVec.ofNat_toNat, BitVec.setWidth_eq]

/-- A write of AF takes A from the high byte and the flags from bits 7 to 4 of the low one (spec/30_encoding.md R85). -/
theorem State.setRp2_af (s : State) (v : Word) :
    s.setRp2 .af v = { s with
      a := BitVec.ofNat 8 (v.toNat / 256)
      flags := ⟨v.getLsbD 7, v.getLsbD 6, v.getLsbD 5, v.getLsbD 4⟩ } := by
  rw [← highByte_eq_ofNat, ← Flags.ofByte_lowByte]
  rfl

/-! ## What each shared form answers, by which of its accesses are answered -/

section

variable {s t u : State} {addr hl : Word} {dst src : R8} {v lo : Byte} {w : Word}

theorem loadR8_some (hread : s.r8 src = some v) (hwrite : s.setR8 dst v = some t) : loadR8 dst src s = .next t :=
  (readR8_some hread).trans (writeR8_some hwrite)

theorem loadR8_read_none (hread : s.r8 src = none) :
    loadR8 dst src s = stoppedAt (.invalidMemoryAccess s.hl .read) s := readR8_none hread

theorem loadR8_write_none (hread : s.r8 src = some v) (hwrite : s.setR8 dst v = none) :
    loadR8 dst src s = stoppedAt (.invalidMemoryAccess s.hl .write) s :=
  (readR8_some hread).trans (writeR8_none hwrite)

theorem loadImm_some (hwrite : s.setR8 dst v = some t) : loadImm dst v s = .next t := writeR8_some hwrite

theorem loadImm_none (hwrite : s.setR8 dst v = none) :
    loadImm dst v s = stoppedAt (.invalidMemoryAccess s.hl .write) s := writeR8_none hwrite

theorem loadA_some (hread : s.peek addr = some v) : loadA addr s = .next { s with a := v } := readByte_some hread

theorem loadA_none (hread : s.peek addr = none) :
    loadA addr s = stoppedAt (.invalidMemoryAccess addr .read) s := readByte_none hread

theorem storeA_some (hwrite : s.poke addr s.a = some t) : storeA addr s = .next t := writeByte_some hwrite

/-- A byte that cannot be read cannot be written either. -/
theorem storeA_none (hread : s.peek addr = none) :
    storeA addr s = stoppedAt (.invalidMemoryAccess addr .write) s :=
  writeByte_none (State.poke_eq_none_iff_peek.mpr hread)

theorem loadAThen_some (hread : s.peek s.hl = some v) :
    loadAThen hl s = .next { s with a := v, h := highByte hl, l := lowByte hl } := readByte_some hread

theorem loadAThen_none (hread : s.peek s.hl = none) :
    loadAThen hl s = stoppedAt (.invalidMemoryAccess s.hl .read) s := readByte_none hread

theorem storeAThen_some (hwrite : s.poke s.hl s.a = some t) :
    storeAThen hl s = .next { t with h := highByte hl, l := lowByte hl } := writeByte_some hwrite

theorem storeAThen_none (hread : s.peek s.hl = none) :
    storeAThen hl s = stoppedAt (.invalidMemoryAccess s.hl .write) s :=
  writeByte_none (State.poke_eq_none_iff_peek.mpr hread)

theorem writeWord_some (hlow : s.poke addr (lowByte w) = some t) (hhigh : t.poke (addr + 1) (highByte w) = some u) :
    writeWord addr w s .next = .next u := (writeByte_some hlow).trans (writeByte_some hhigh)

theorem writeWord_low_none (hlow : s.poke addr (lowByte w) = none) :
    writeWord addr w s .next = stoppedAt (.invalidMemoryAccess addr .write) s := writeByte_none hlow

/-- The low byte stays stored where the high one faults (spec/20_memory.md R61). -/
theorem writeWord_high_none (hlow : s.poke addr (lowByte w) = some t)
    (hhigh : t.poke (addr + 1) (highByte w) = none) :
    writeWord addr w s .next = stoppedAt (.invalidMemoryAccess (addr + 1) .write) t :=
  (writeByte_some hlow).trans (writeByte_none hhigh)

theorem pop_low_none {f : Word → State → Out} (hlow : s.peek s.sp = none) :
    pop s f = stoppedAt (.invalidMemoryAccess s.sp .read) s := readByte_none hlow

/-- SP has moved past the low byte where the high one faults (spec/40_step_and_dispatch.md R109). -/
theorem pop_high_none {f : Word → State → Out} (hlow : s.peek s.sp = some lo) (hhigh : s.peek (s.sp + 1) = none) :
    pop s f = stoppedAt (.invalidMemoryAccess (s.sp + 1) .read) { s with sp := s.sp + 1 } :=
  (readByte_some hlow).trans (readByte_none (s := { s with sp := s.sp + 1 }) hhigh)

end

/-! ## The immediate word of an entry -/

/-- A step at an opcode with an immediate word fetches the word and goes on with the instruction it makes (spec/30_encoding.md
R99, spec/40_step_and_dispatch.md R100). -/
theorem step_imm16 {s : State} {op : Byte} {f : Word → Instr} (hentry : primary op = .imm16 f) (hrunning : s.Running)
    (hop : (bootUnmapCheck s).peek s.pc = some op) :
    step s = settle (Config.standard.cost false op)
      (fetch16 { bootUnmapCheck s with pc := s.pc + 1 } fun v u => exec (f v) u) := by
  have himpl : Config.standard.impl false op = true := by simp [Config.standard, defaultImpl, hentry]
  rw [← bootUnmapCheck_pc] at hop ⊢
  rw [step, stepWith_running hrunning.fault hrunning.halted, runInstruction, fetch8_some hop]
  simp only [hentry, enter_present himpl]

/-- The two immediate bytes of an `imm16` entry are fetched before anything else is done, the low one first
(spec/30_encoding.md R89, R99). -/
theorem immediateFetchStops_of_imm16 {op : Byte} {f : Word → Instr} (hentry : primary op = .imm16 f) :
    ImmediateFetchStops op 2 := by
  intro s k hrunning hk hop hbefore hnone
  have hfirst : s.pc + 1 + BitVec.ofNat 16 0 = s.pc + 1 := by simp
  rw [step_imm16 hentry hrunning hop, fetch16]
  obtain rfl | rfl : k = 0 ∨ k = 1 := by omega
  · rw [hfirst] at hnone ⊢
    rw [fetch8_none (s := { bootUnmapCheck s with pc := s.pc + 1 }) hnone]
    rfl
  · obtain ⟨lo, hlo⟩ := Option.ne_none_iff_exists'.mp (hbefore 0 Nat.one_pos)
    rw [hfirst] at hlo
    rw [fetch8_some (s := { bootUnmapCheck s with pc := s.pc + 1 }) hlo,
      fetch8_none (s := { bootUnmapCheck s with pc := s.pc + 1 + 1 }) hnone]
    rfl

/-! ## Entries and costs of the blocks of loads (spec/30_encoding.md R90, R91, R93) -/

theorem primary_ldImm (y : BitVec 3) : primary (opcode 0#2 y 6#3) = .imm8 (.ldImm (.ofField y)) := by
  revert y
  exact forall_field3 rfl rfl rfl rfl rfl rfl rfl rfl

theorem primary_ldPair (p : BitVec 2) : primary (opcodePq 0#2 p 0#1 1#3) = .imm16 (.ldPair (.ofField p)) := by
  revert p
  exact forall_field2 rfl rfl rfl rfl

theorem hasCost_ld {y z : BitVec 3} (h : ¬(y = 6#3 ∧ z = 6#3)) :
    HasCost false (opcode 1#2 y z) (if y = 6#3 ∨ z = 6#3 then 8 else 4) (if y = 6#3 ∨ z = 6#3 then 8 else 4) := by
  revert y z
  decide

theorem hasCost_ldImm (y : BitVec 3) :
    HasCost false (opcode 0#2 y 6#3) (if y = 6#3 then 12 else 8) (if y = 6#3 then 12 else 8) := by
  revert y
  decide

theorem hasCost_loadA (p : BitVec 2) : HasCost false (opcodePq 0#2 p 1#1 2#3) 8 8 := by
  revert p
  decide

theorem hasCost_storeA (p : BitVec 2) : HasCost false (opcodePq 0#2 p 0#1 2#3) 8 8 := by
  revert p
  decide

theorem hasCost_ldPair (p : BitVec 2) : HasCost false (opcodePq 0#2 p 0#1 1#3) 12 12 := by
  revert p
  decide

theorem hasCost_pop (p : BitVec 2) : HasCost false (opcodePq 3#2 p 0#1 1#3) 12 12 := by
  revert p
  decide

/-! ## The statements -/

/-- Settles O25: outside the slot of HALT the block is one form, a read and then a write. -/
theorem loadBetweenOperands : Obligations.LoadBetweenOperands := by
  intro y z hne
  have hslot : ¬(R8.ofField y = .atHl ∧ R8.ofField z = .atHl) := by
    rwa [R8.ofField_eq_atHl_iff, R8.ofField_eq_atHl_iff]
  simp only [exec_ld _ hslot]
  exact ⟨hasEncoding_of_encode (encode_ld y z), hasCost_ld hne, fun s t v => loadR8_some, fun s => loadR8_read_none,
    fun s v => loadR8_write_none⟩

/-- Settles O26: the immediate is fetched by the step, so the instruction is one write. -/
theorem loadImmediateByte : Obligations.LoadImmediateByte := by
  intro y v
  simp only [exec_ldImm]
  exact ⟨hasEncoding_of_encode (encode_ldImm y v), hasCost_ldImm y, immediateFetchStops_of_imm8 (primary_ldImm y),
    fun s t => loadImm_some, fun s => loadImm_none⟩

/-- Settles O27: rows 0 and 1 of the two blocks of `(rr)`, with no address but the pair. -/
theorem accumulatorThroughPair : Obligations.AccumulatorThroughPair :=
  ⟨⟨hasEncoding_of_encode (encode_loadA 0), hasCost_loadA 0, hasEncoding_of_encode (encode_loadA 1), hasCost_loadA 1,
      hasEncoding_of_encode (encode_storeA 0), hasCost_storeA 0, hasEncoding_of_encode (encode_storeA 1),
      hasCost_storeA 1⟩,
    fun _ _ => loadA_some, fun _ _ => loadA_some, fun _ _ => storeA_some, fun _ _ => storeA_some,
    fun _ h => ⟨loadA_none h, storeA_none h⟩, fun _ h => ⟨loadA_none h, storeA_none h⟩⟩

/-- Settles O28: rows 2 and 3 of the same blocks; HL is written after the access, so a fault leaves it. -/
theorem accumulatorThroughHlIncDec : Obligations.AccumulatorThroughHlIncDec :=
  ⟨⟨hasEncoding_of_encode (encode_loadA 2), hasCost_loadA 2, hasEncoding_of_encode (encode_loadA 3), hasCost_loadA 3,
      hasEncoding_of_encode (encode_storeA 2), hasCost_storeA 2, hasEncoding_of_encode (encode_storeA 3),
      hasCost_storeA 3⟩,
    fun _ _ h => ⟨loadAThen_some h, loadAThen_some h⟩, fun _ _ h => ⟨storeAThen_some h, storeAThen_some h⟩,
    fun _ h => ⟨loadAThen_none h, loadAThen_none h, storeAThen_none h, storeAThen_none h⟩⟩

/-- Settles O29: the load and the store of A at an address, which is the immediate word or stands in the high page. -/
theorem accumulatorAbsoluteAndHighPage : Obligations.AccumulatorAbsoluteAndHighPage := by
  unfold Obligations.AccumulatorAbsoluteAndHighPage
  simp only [← highPage_eq_add]
  refine ⟨fun addr => ?_, fun n => ?_, ?_, fun _ _ => loadA_some, fun _ _ => storeA_some,
    fun _ h => ⟨loadA_none h, storeA_none h⟩⟩
  · exact ⟨hasEncoding_of_encode rfl, by decide, immediateFetchStops_of_imm16 (f := .ldAAtA16) rfl,
      hasEncoding_of_encode rfl, by decide, immediateFetchStops_of_imm16 (f := .ldAtA16A) rfl,
      fun _ _ => loadA_some, fun _ _ => storeA_some, fun _ h => ⟨loadA_none h, storeA_none h⟩⟩
  · exact ⟨hasEncoding_of_encode rfl, by decide, immediateFetchStops_of_imm8 (f := .ldhAAtA8) rfl,
      hasEncoding_of_encode rfl, by decide, immediateFetchStops_of_imm8 (f := .ldhAtA8A) rfl,
      fun _ _ => loadA_some, fun _ _ => storeA_some, fun _ h => ⟨loadA_none h, storeA_none h⟩⟩
  · exact ⟨hasEncoding_of_encode rfl, by decide, hasEncoding_of_encode rfl, by decide⟩

/-- Settles O30: the first two forms write registers alone; the last is a write of two bytes, low one first. -/
theorem sixteenBitLoads : Obligations.SixteenBitLoads := by
  refine ⟨fun p v => ?_, ?_, fun addr => ?_⟩
  · exact ⟨hasEncoding_of_encode (encode_ldPair p v), hasCost_ldPair p,
      immediateFetchStops_of_imm16 (primary_ldPair p), fun s => exec_ldPair s (.ofField p) v⟩
  · exact ⟨hasEncoding_of_encode rfl, by decide, fun _ => rfl⟩
  · exact ⟨hasEncoding_of_encode rfl, by decide, immediateFetchStops_of_imm16 (f := .ldAtA16Sp) rfl,
      fun _ _ _ => writeWord_some, fun _ => writeWord_low_none, fun _ _ => writeWord_high_none⟩

end Sys2Proof.Machine

namespace Sys2Proof

open Sys2Proof.Machine

/-- Settles O32: the clauses are the cases of a pop, by which of its two reads are answered; the pair is written after both.
(The name is taken in `Sys2Proof.Machine` by the meaning of POP.) -/
theorem popPair : Obligations.PopPair := by
  refine ⟨State.setRp2_af, fun s => s.setRp2_rp2 .af, fun p => ?_⟩
  simp only [exec_pop, ← joinBytes_eq_ofNat]
  exact ⟨hasEncoding_of_encode (encode_pop p), hasCost_pop p, fun _ _ _ => pop_of_peek, fun _ => pop_low_none,
    fun _ _ => pop_high_none⟩

end Sys2Proof

/-! # 8-bit increments, the accumulator block and DAA -/

namespace Sys2Proof.Machine

/-! ## Read, compute, write the flags, write the result (spec/40_step_and_dispatch.md R118) -/

section

variable {s : State} {g : Byte → Flags → Byte × Flags} {z : R8} {v : Byte} {r : Byte × Flags}

theorem State.r8_setFlags (f : Flags) : { s with flags := f }.r8 z = s.r8 z := by cases z <;> rfl

/-- Writing the flags moves no address, so an operand that was read can be written. -/
theorem exists_modifyR8 (hread : s.r8 z = some v) (hresult : g v s.flags = r) :
    ∃ t, { s with flags := r.2 }.setR8 z r.1 = some t ∧ modifyR8 g z s = .next t := by
  have hwrite : ({ s with flags := r.2 }.setR8 z r.1).isSome = true := by
    rw [← State.r8_isSome_iff_setR8, State.r8_setFlags, hread]
    rfl
  obtain ⟨t, ht⟩ := Option.isSome_iff_exists.mp hwrite
  subst hresult
  exact ⟨t, ht, (readR8_some hread).trans (writeR8_some ht)⟩

theorem modifyR8_none (h : s.r8 z = none) :
    modifyR8 g z s = stoppedAt (.invalidMemoryAccess s.hl .read) s := readR8_none h

end

/-! ## INC and DEC (spec/42_alu8.md R184 to R187) -/

theorem inc8_eq (v : Byte) :
    inc8 v = (v + 1, ⟨decide (v = 0xFF#8), false, decide (v.toNat % 16 = 15), decide (v = 0xFF#8)⟩) := by
  have hsum : BitVec.ofNat 8 (v.toNat + (1#8).toNat + num false) = v + 1 := by simp [num, BitVec.ofNat_add]
  rw [inc8, add8_eq]
  simp only [addFlags, hsum, Prod.mk.injEq, Flags.mk.injEq, decide_eq_decide, true_and]
  refine ⟨?_, ?_, ?_⟩ <;> simp [num] <;> bv_omega

theorem dec8_eq (v : Byte) :
    dec8 v = (v - 1, ⟨decide (v = 0x01#8), true, decide (v.toNat % 16 = 0), decide (v = 0x00#8)⟩) := by
  have hdiff : v - 1#8 - BitVec.ofNat 8 (num false) = v - 1 := BitVec.sub_zero _
  rw [dec8, sub8_eq]
  simp only [subFlags, hdiff, Prod.mk.injEq, Flags.mk.injEq, decide_eq_decide, true_and]
  refine ⟨?_, ?_, ?_⟩ <;> simp [num] <;> bv_omega

theorem hasCost_inc (y : BitVec 3) :
    HasCost false (opcode 0#2 y 4#3) (if y = 6#3 then 12 else 4) (if y = 6#3 then 12 else 4) := by
  revert y
  decide

theorem hasCost_dec (y : BitVec 3) :
    HasCost false (opcode 0#2 y 5#3) (if y = 6#3 then 12 else 4) (if y = 6#3 then 12 else 4) := by
  revert y
  decide

/-- Settles O37: both are one read-modify-write, of `inc8` and of `dec8`. -/
theorem incrementAndDecrement : Obligations.IncrementAndDecrement := by
  intro y
  simp only [exec_inc, exec_dec]
  refine ⟨hasEncoding_of_encode (encode_inc y), hasEncoding_of_encode (encode_dec y), hasCost_inc y, hasCost_dec y,
    fun s v hread => ⟨?_, ?_⟩, fun s hnone => ⟨modifyR8_none hnone, modifyR8_none hnone⟩⟩
  · exact exists_modifyR8 (g := fun v _ => inc8 v) hread (inc8_eq v)
  · exact exists_modifyR8 (g := fun v _ => dec8 v) hread (dec8_eq v)

/-! ## The rotates of A (R192 to R195) -/

theorem shiftLeft_or_lowBit (v : Byte) (b : Bool) :
    v <<< 1 ||| (BitVec.ofBool b).setWidth 8 = BitVec.ofNat 8 (2 * v.toNat + num b) := by
  have hdisjoint : v <<< 1 &&& (BitVec.ofBool b).setWidth 8 = 0#8 := by
    ext i hi
    cases i <;> simp
  rw [← BitVec.add_eq_or_of_and_eq_zero _ _ hdisjoint]
  apply BitVec.eq_of_toNat_eq
  cases b <;> simp [num, Nat.shiftLeft_eq, Nat.mul_comm]

theorem shiftRight_or_highBit (v : Byte) (b : Bool) :
    v >>> 1 ||| (BitVec.ofBool b).setWidth 8 <<< 7 = BitVec.ofNat 8 (v.toNat / 2 + 128 * num b) := by
  have hhalf : v.toNat / 2 < 256 := by omega
  have hdisjoint : v >>> 1 &&& (BitVec.ofBool b).setWidth 8 <<< 7 = 0#8 := by
    ext i hi
    by_cases h7 : i < 7
    · simp [h7]
    · have : i = 7 := by omega
      simp [this]
  rw [← BitVec.add_eq_or_of_and_eq_zero _ _ hdisjoint]
  apply BitVec.eq_of_toNat_eq
  cases b <;> simp [num, Nat.shiftRight_eq_div_pow, Nat.mod_eq_of_lt hhalf]

theorem shiftLeft_or_bit7 (v : Byte) : v <<< 1 ||| (BitVec.ofBool (v.getLsbD 7)).setWidth 8 = v.rotateLeft 1 := by
  ext i hi
  cases i <;> simp [BitVec.getElem_rotateLeft]

theorem shiftRight_or_bit0 (v : Byte) :
    v >>> 1 ||| (BitVec.ofBool (v.getLsbD 0)).setWidth 8 <<< 7 = v.rotateRight 1 := by
  ext i hi
  by_cases h7 : i < 7
  · have hsucc : 1 + i < 8 := by omega
    simp [BitVec.getElem_rotateRight, h7, hsucc, BitVec.getLsbD_eq_getElem]
  · have : i = 7 := by omega
    simp [BitVec.getElem_rotateRight, this]

/-- A rotate of A drops fZ, whatever the result. -/
theorem clearZ_shiftFlags (r : Byte) (out : Bool) : clearZ (r, shiftFlags r out) = (r, ⟨false, false, false, out⟩) := rfl

theorem clearZ_rlc8 (v : Byte) : clearZ (rlc8 v) = (v.rotateLeft 1, ⟨false, false, false, v.getLsbD 7⟩) := by
  rw [rlc8, shiftLeft_or_bit7, clearZ_shiftFlags]

theorem clearZ_rrc8 (v : Byte) : clearZ (rrc8 v) = (v.rotateRight 1, ⟨false, false, false, v.getLsbD 0⟩) := by
  rw [rrc8, shiftRight_or_bit0, clearZ_shiftFlags]

theorem clearZ_rl8 (v : Byte) (carry : Bool) :
    clearZ (rl8 v carry) = (BitVec.ofNat 8 (2 * v.toNat + num carry), ⟨false, false, false, v.getLsbD 7⟩) := by
  rw [rl8, shiftLeft_or_lowBit, clearZ_shiftFlags]

theorem clearZ_rr8 (v : Byte) (carry : Bool) :
    clearZ (rr8 v carry) = (BitVec.ofNat 8 (v.toNat / 2 + 128 * num carry), ⟨false, false, false, v.getLsbD 0⟩) := by
  rw [rr8, shiftRight_or_highBit, clearZ_shiftFlags]

/-! ## The block of the accumulator operations (R188 to R195) -/

theorem hasCost_accumulator (y : BitVec 3) : HasCost false (opcode 0#2 y 7#3) 4 4 := by
  revert y
  decide

theorem accumulator_of_result {s : State} {r q : Byte × Flags} (h : r = q) :
    accumulator r s = .next { s with a := q.1, flags := q.2 } := by
  rw [accumulator, h]

/-- Settles O38: rows 0 to 3 of the block rotate A, rows 5 to 7 hold their formula by definition. -/
theorem accumulatorAndCarryOperations : Obligations.AccumulatorAndCarryOperations := by
  refine ⟨⟨hasEncoding_of_encode (encode_accumulator 5), hasCost_accumulator 5,
      hasEncoding_of_encode (encode_accumulator 6), hasCost_accumulator 6,
      hasEncoding_of_encode (encode_accumulator 7), hasCost_accumulator 7,
      hasEncoding_of_encode (encode_accumulator 0), hasCost_accumulator 0,
      hasEncoding_of_encode (encode_accumulator 1), hasCost_accumulator 1,
      hasEncoding_of_encode (encode_accumulator 2), hasCost_accumulator 2,
      hasEncoding_of_encode (encode_accumulator 3), hasCost_accumulator 3⟩,
    fun s => ⟨rfl, rfl, rfl, ?_, ?_, ?_, ?_⟩⟩
  · exact accumulator_of_result (clearZ_rlc8 s.a)
  · exact accumulator_of_result (clearZ_rrc8 s.a)
  · exact accumulator_of_result (clearZ_rl8 s.a s.flags.c)
  · exact accumulator_of_result (clearZ_rr8 s.a s.flags.c)

/-! ## DAA in closed form (R188) -/

/-- The upper digit is corrected; this is fC after DAA. -/
def daaUpper (a : Byte) (f : Flags) : Bool := f.c || (!f.n && decide (a.toNat > 0x99))

/-- The lower digit is corrected. -/
def daaLower (a : Byte) (f : Flags) : Bool := f.h || (!f.n && decide (a.toNat % 16 > 9))

/-- The two adjustments as one number. -/
def daaCorrection (upper lower : Bool) : Byte := BitVec.ofNat 8 (0x60 * num upper + 0x06 * num lower)

/-- What DAA leaves in A. -/
def daaAdjusted (a : Byte) (f : Flags) : Byte :=
  if f.n then a - daaCorrection (daaUpper a f) (daaLower a f) else a + daaCorrection (daaUpper a f) (daaLower a f)

/-- Adding 0x60 leaves the low digit, so the second test of R188 may look at the A it found. -/
theorem lowDigit_upperAdjusted (a : Byte) (upper : Bool) :
    (if upper then a + 0x60#8 else a).toNat % 16 = a.toNat % 16 := by
  cases upper
  · rfl
  · show (a + 0x60#8).toNat % 16 = a.toNat % 16
    bv_omega

theorem adjusted_add (a : Byte) (upper lower : Bool) :
    (if lower then (if upper then a + 0x60#8 else a) + 0x06#8 else (if upper then a + 0x60#8 else a)) =
      a + daaCorrection upper lower := by
  cases upper <;> cases lower <;> simp [daaCorrection, num, BitVec.add_assoc]

theorem adjusted_sub (a : Byte) (upper lower : Bool) :
    (if lower then (if upper then a - 0x60#8 else a) - 0x06#8 else (if upper then a - 0x60#8 else a)) =
      a - daaCorrection upper lower := by
  have htwice : a - 0x60#8 - 0x06#8 = a - 0x66#8 := by bv_omega
  cases upper <;> cases lower <;> simp [daaCorrection, num, htwice]

theorem daaResult_eq (a : Byte) (f : Flags) :
    daaResult a f = (daaAdjusted a f, ⟨decide (daaAdjusted a f = 0#8), f.n, false, daaUpper a f⟩) := by
  obtain ⟨z, n, h, c⟩ := f
  cases n with
  | true =>
    simp only [daaResult, if_true, adjusted_sub]
    simp [daaAdjusted, daaUpper, daaLower]
  | false =>
    simp only [daaResult, Bool.false_eq_true, if_false, lowDigit_upperAdjusted, adjusted_add]
    rfl

/-- Settles O39: row 4 of the accumulator block, by DAA's closed form. -/
theorem decimalAdjust : Obligations.DecimalAdjust :=
  ⟨hasEncoding_of_encode (encode_accumulator 4), hasCost_accumulator 4,
    fun s => accumulator_of_result (daaResult_eq s.a s.flags)⟩

/-! ## DAA after an addition of two decimal bytes (R188, corner cases) -/

section

variable {m n : Nat}

theorem toNat_bcd (h : n < 100) : (bcd n).toNat = 16 * (n / 10) + n % 10 := by
  rw [bcd, BitVec.toNat_ofNat]
  omega

theorem bcd_eq_zero_iff (h : n < 100) : bcd n = 0#8 ↔ n = 0 := by
  rw [← BitVec.toNat_inj, toNat_bcd h, BitVec.toNat_ofNat]
  omega

/-- The upper digit is corrected exactly if the decimal sum has a carry: fC and the test of A together say that the binary sum
passes 0x99. -/
theorem daaUpper_add_bcd (hm : m < 100) (hn : n < 100) :
    daaUpper (BitVec.ofNat 8 ((bcd m).toNat + (bcd n).toNat)) (addFlags (bcd m) (bcd n) 0) = decide (100 ≤ m + n) := by
  have hwrap (k : Nat) : k ≥ 256 ∨ k % 2 ^ 8 > 0x99 ↔ k > 0x99 := by omega
  rw [Bool.eq_iff_iff]
  simp only [daaUpper, addFlags, BitVec.toNat_ofNat, Nat.add_zero, Bool.not_false, Bool.true_and, Bool.or_eq_true,
    decide_eq_true_eq, hwrap, toNat_bcd hm, toNat_bcd hn]
  omega

/-- The lower digit is corrected exactly if the sum of the two lower digits has a carry. -/
theorem daaLower_add_bcd (hm : m < 100) (hn : n < 100) :
    daaLower (BitVec.ofNat 8 ((bcd m).toNat + (bcd n).toNat)) (addFlags (bcd m) (bcd n) 0) =
      decide (10 ≤ m % 10 + n % 10) := by
  rw [Bool.eq_iff_iff]
  simp only [daaLower, addFlags, toNat_bcd hm, toNat_bcd hn, BitVec.toNat_ofNat, Bool.not_false, Bool.true_and,
    Bool.or_eq_true, decide_eq_true_eq]
  omega

/-- Each correction skips the six values of a digit that are not decimal. -/
theorem bcd_add_correction (hm : m < 100) (hn : n < 100) :
    BitVec.ofNat 8 ((bcd m).toNat + (bcd n).toNat) +
      daaCorrection (decide (100 ≤ m + n)) (decide (10 ≤ m % 10 + n % 10)) = bcd ((m + n) % 100) := by
  apply BitVec.eq_of_toNat_eq
  rw [toNat_bcd (Nat.mod_lt _ (by decide)), toNat_bcd hm, toNat_bcd hn]
  simp only [daaCorrection, BitVec.toNat_add, BitVec.toNat_ofNat, num, decide_eq_true_eq]
  split <;> split <;> omega

theorem daaAdjusted_add_bcd (hm : m < 100) (hn : n < 100) :
    daaAdjusted (BitVec.ofNat 8 ((bcd m).toNat + (bcd n).toNat)) (addFlags (bcd m) (bcd n) 0) = bcd ((m + n) % 100) := by
  rw [← bcd_add_correction hm hn, ← daaUpper_add_bcd hm hn, ← daaLower_add_bcd hm hn]
  rfl

end

/-- Settles O40: DAA corrects the binary sum of the two bytes into the decimal one. -/
theorem decimalAdjustGivesDecimalSum : Obligations.DecimalAdjustGivesDecimalSum := by
  intro s m n hm hn ha
  have hadd : exec (.aluImm .add (bcd n)) s = .next { s with
      a := BitVec.ofNat 8 ((bcd m).toNat + (bcd n).toNat), flags := addFlags (bcd m) (bcd n) 0 } := by
    rw [exec_aluImm, aluImm, aluWith_of_result (op := .add) (add8_eq s.a (bcd n) false), ha]
    rfl
  refine ⟨_, _, hadd, accumulator_of_result (daaResult_eq _ _), daaAdjusted_add_bcd hm hn, daaUpper_add_bcd hm hn, ?_⟩
  rw [decide_eq_decide, daaAdjusted_add_bcd hm hn]
  exact bcd_eq_zero_iff (Nat.mod_lt _ (by decide))

end Sys2Proof.Machine

/-! # 16-bit arithmetic -/

namespace Sys2Proof.Machine

/-! ## Sums, and carries out of bits 11 and 15, 3 and 7 (spec/43_alu16.md R200, R203, R204) -/

theorem addHlResult_eq (a b : Word) (f : Flags) :
    addHlResult a b f = (a + b, {
      z := f.z
      n := false
      h := decide (a.toNat % 4096 + b.toNat % 4096 ≥ 4096)
      c := decide (a.toNat + b.toNat ≥ 65536) }) := by
  have hsum : BitVec.ofNat 16 (a.toNat + b.toNat) = a + b := by simp [BitVec.ofNat_add]
  rw [addHlResult, hsum]
  rfl

/-- Sign-extending the offset before the addition is adding it as an integer. -/
theorem ofInt_add_toInt (sp : Word) (e : Byte) :
    BitVec.ofInt 16 ((sp.toNat : Int) + e.toInt) = sp + e.signExtend 16 := by
  rw [BitVec.ofInt_add, BitVec.ofInt_natCast, BitVec.ofNat_toNat, BitVec.setWidth_eq, BitVec.signExtend]

theorem addSpResult_eq (sp : Word) (e : Byte) :
    addSpResult sp e = (sp + e.signExtend 16,
      ⟨false, false, decide (sp.toNat % 16 + e.toNat % 16 ≥ 16), decide (sp.toNat % 256 + e.toNat ≥ 256)⟩) := by
  rw [addSpResult, ofInt_add_toInt]
  rfl

/-! ## The block of pair arithmetic -/

theorem hasCost_addHl (p : BitVec 2) : HasCost false (opcodePq 0#2 p 1#1 1#3) 8 8 := by
  revert p
  decide

theorem hasCost_incPair (p : BitVec 2) : HasCost false (opcodePq 0#2 p 0#1 3#3) 8 8 := by
  revert p
  decide

theorem hasCost_decPair (p : BitVec 2) : HasCost false (opcodePq 0#2 p 1#1 3#3) 8 8 := by
  revert p
  decide

/-- Settles O41: ADD HL,rr writes the sum and its flags, INC rr and DEC rr write the pair alone. -/
theorem pairArithmetic : Obligations.PairArithmetic := by
  intro p
  refine ⟨hasEncoding_of_encode (encode_addHl p), hasCost_addHl p, hasEncoding_of_encode (encode_incPair p),
    hasCost_incPair p, hasEncoding_of_encode (encode_decPair p), hasCost_decPair p,
    fun s => ⟨?_, exec_incPair s _, exec_decPair s _⟩⟩
  rw [exec_addHl, addHl, addHlResult_eq]
  rfl

/-- Settles O42: both write the flags of one sum, which goes to SP or to HL. -/
theorem stackPointerOffset : Obligations.StackPointerOffset := by
  intro e
  refine ⟨hasEncoding_of_encode rfl, by decide, immediateFetchStops_of_imm8 (f := .addSpE8) rfl,
    hasEncoding_of_encode rfl, by decide, immediateFetchStops_of_imm8 (f := .ldHlSpE8) rfl, fun s => ⟨?_, ?_⟩⟩
  · show execAddSpE8 e s = _
    rw [execAddSpE8, addSpResult_eq]
  · show execLdHlSpE8 e s = _
    rw [execLdHlSpE8, addSpResult_eq]
    rfl

end Sys2Proof.Machine

/-! # Control transfer -/

namespace Sys2Proof.Machine

/-! ## Entries and costs of the blocks (spec/30_encoding.md R90, R93, spec/70_reset_and_hazards.md R366) -/

theorem primary_jp (y : BitVec 2) : primary (opcode 3#2 (y.setWidth 3) 2#3) = .imm16 (.jp (.ofField y)) := by
  revert y
  exact forall_field2 rfl rfl rfl rfl

theorem primary_jr (y : BitVec 2) : primary (opcode 0#2 (y.setWidth 3 + 4) 0#3) = .imm8 (.jr (.ofField y)) := by
  revert y
  exact forall_field2 rfl rfl rfl rfl

theorem primary_call (y : BitVec 2) : primary (opcode 3#2 (y.setWidth 3) 4#3) = .imm16 (.call (.ofField y)) := by
  revert y
  exact forall_field2 rfl rfl rfl rfl

theorem hasCost_jp (y : BitVec 2) : HasCost false (opcode 3#2 (y.setWidth 3) 2#3) 16 12 := by
  revert y
  decide

theorem hasCost_jr (y : BitVec 2) : HasCost false (opcode 0#2 (y.setWidth 3 + 4) 0#3) 12 8 := by
  revert y
  decide

theorem hasCost_call (y : BitVec 2) : HasCost false (opcode 3#2 (y.setWidth 3) 4#3) 24 12 := by
  revert y
  decide

theorem hasCost_retIf (y : BitVec 2) : HasCost false (opcode 3#2 (y.setWidth 3) 0#3) 20 8 := by
  revert y
  decide

theorem hasCost_rst (y : BitVec 3) : HasCost false (opcode 3#2 y 7#3) 16 16 := by
  revert y
  decide

/-! ## Which shared meaning a transfer has (spec/44_control.md) -/

section

variable {s : State} {i : Instr} {cc : Cond} {target : Word}

/-- Where its condition holds, a conditional transfer is the unconditional one (spec/40_step_and_dispatch.md R116). -/
theorem onCond_of_holds {f : State → Out} (h : s.holds cc = true) : onCond cc f s = f s := if_pos h

theorem exec_jp_of_holds (h : s.holds cc = true) : exec (.jp cc target) s = .next { s with pc := target } := by
  rw [exec_jp, onCond_of_holds h]

theorem exec_jr_of_holds (e : Byte) (h : s.holds cc = true) :
    exec (.jr cc e) s = .next { s with pc := s.pc + e.signExtend 16 } := by
  rw [exec_jr, onCond_of_holds h]
  rfl

theorem exec_jp_of_not_holds (h : s.holds cc = false) : exec (.jp cc target) s = .next { s with notTaken := true } :=
  exec_of_not_holds (.inr (.inl ⟨target, rfl⟩)) h

theorem exec_jr_of_not_holds (e : Byte) (h : s.holds cc = false) :
    exec (.jr cc e) s = .next { s with notTaken := true } :=
  exec_of_not_holds (.inl ⟨e, rfl⟩) h

theorem exec_call_of_not_holds (h : s.holds cc = false) :
    exec (.call cc target) s = .next { s with notTaken := true } :=
  exec_of_not_holds (.inr (.inr (.inl ⟨target, rfl⟩))) h

theorem exec_retIf_of_not_holds (h : s.holds cc = false) : exec (.retIf cc) s = .next { s with notTaken := true } :=
  exec_of_not_holds (.inr (.inr (.inr rfl))) h

/-- CALL, a taken CALL cc and RST are one call (R215, R216, R219). -/
theorem exec_of_calls (hi : i.Calls target s) :
    exec i s = push s.pc s fun u => .next { u with pc := target } := by
  obtain rfl | ⟨y, rfl, hcc⟩ | ⟨y, rfl, rfl⟩ := hi
  · rfl
  · rw [exec_call, onCond_of_holds hcc, callTo]
  · rw [exec_rst, callTo, Nat.mul_comm]

/-- RET and a taken RET cc are one return (R217, R218). -/
theorem exec_of_returns (hi : i.Returns s) : exec i s = pop s fun v u => .next { u with pc := v } := by
  obtain rfl | ⟨y, rfl, hcc⟩ := hi
  · rfl
  · rw [exec_retIf, onCond_of_holds hcc, returnFrom]

/-- RETI also sets `ime`, after both reads (R220). -/
theorem exec_reti (s : State) : exec .reti s = pop s fun v u => .next { u with pc := v, ime := true } := rfl

/-- Each return is a pop; what it does with the word comes after both reads. -/
theorem exists_pop_of_returns (hi : i.Returns s ∨ i = .reti) : ∃ f, exec i s = pop s f := by
  obtain hi | rfl := hi
  · exact ⟨_, exec_of_returns hi⟩
  · exact ⟨_, exec_reti s⟩

end

/-! ## The statements -/

/-- Settles O43: a taken jump writes `pc` alone, an untaken one `notTaken` alone. -/
theorem jumps : Obligations.Jumps := by
  refine ⟨fun target => ?_, ?_, fun e => ?_, fun y target => ?_, fun y e => ?_⟩
  · exact ⟨hasEncoding_of_encode rfl, by decide, immediateFetchStops_of_imm16 (f := .jpA16) rfl, fun _ => rfl⟩
  · exact ⟨hasEncoding_of_encode rfl, by decide, fun _ => rfl⟩
  · exact ⟨hasEncoding_of_encode rfl, by decide, immediateFetchStops_of_imm8 (f := .jrE8) rfl, fun _ => rfl⟩
  · exact ⟨hasEncoding_of_encode (encode_jp y target), hasCost_jp y, immediateFetchStops_of_imm16 (primary_jp y),
      fun s => ⟨exec_jp_of_holds, exec_jp_of_not_holds⟩⟩
  · exact ⟨hasEncoding_of_encode (encode_jr y e), hasCost_jr y, immediateFetchStops_of_imm8 (primary_jr y),
      fun s => ⟨exec_jr_of_holds e, exec_jr_of_not_holds e⟩⟩

/-- Settles O44: the clauses on `exec` are the cases of one push, by which of its two writes are answered; `pc` is written after
both. -/
theorem calls : Obligations.Calls := by
  refine ⟨fun target => ?_, fun y target => ?_, fun y => ?_, fun i target s t u hi hhigh hlow => ?_,
    fun i target s hi hhigh => ?_, fun i target s t hi hhigh hlow => ?_⟩
  · exact ⟨hasEncoding_of_encode rfl, by decide, immediateFetchStops_of_imm16 (f := .callA16) rfl⟩
  · exact ⟨hasEncoding_of_encode (encode_call y target), hasCost_call y,
      immediateFetchStops_of_imm16 (primary_call y), fun s => exec_call_of_not_holds⟩
  · exact ⟨hasEncoding_of_encode (encode_rst y), hasCost_rst y⟩
  · exact ⟨(exec_of_calls hi).trans (push_of_poke hhigh hlow), State.poke_sp hlow⟩
  · exact (exec_of_calls hi).trans (push_of_poke_high_none hhigh)
  · exact (exec_of_calls hi).trans (push_of_poke_low_none hhigh hlow)

/-- Settles O45: the clauses on `exec` are the cases of one pop, by which of its two reads are answered; `pc` and `ime` are
written after both. -/
theorem returns : Obligations.Returns := by
  unfold Obligations.Returns
  simp only [← joinBytes_eq_ofNat]
  refine ⟨⟨hasEncoding_of_encode rfl, by decide, hasEncoding_of_encode rfl, by decide⟩, fun y => ?_,
    fun i s lo hi hlow hhigh => ⟨fun hreturns => ?_, ?_⟩, fun i s hreturns hlow => ?_,
    fun i s lo hreturns hlow hhigh => ?_⟩
  · exact ⟨hasEncoding_of_encode (encode_retIf y), hasCost_retIf y, fun s => exec_retIf_of_not_holds⟩
  · rw [exec_of_returns hreturns, pop_of_peek hlow hhigh]
  · rw [exec_reti, pop_of_peek hlow hhigh]
  · obtain ⟨f, hpop⟩ := exists_pop_of_returns hreturns
    exact hpop.trans (pop_low_none hlow)
  · obtain ⟨f, hpop⟩ := exists_pop_of_returns hreturns
    exact hpop.trans (pop_high_none hlow hhigh)

/-- Settles O46: RET pops the two bytes of `pc` that CALL pushed; the push changed nothing else but SP, memory and the
display. -/
theorem callThenReturn : Obligations.CallThenReturn := by
  intro s target hwf hhigh hlow hhigh_ly hlow_ly
  obtain ⟨u, hpush, hframe, hlo, hhi⟩ := exists_push hwf hhigh hlow hhigh_ly hlow_ly s.pc
  have hsp : u.sp = s.sp - 2 := by rw [hframe]
  have hback : u.sp + 2 = s.sp := by bv_omega
  refine ⟨{ u with pc := target }, (exec_of_calls (.inl rfl)).trans (hpush _), rfl, ?_⟩
  rw [← hsp] at hlo hhi
  rw [exec_of_returns (.inl rfl), pop_of_peek (s := { u with pc := target }) hlo hhi, joinBytes_high_low]
  show Host.Outcome.next { u with pc := s.pc, sp := u.sp + 2 } = _
  rw [hback, hframe]

end Sys2Proof.Machine

/-! # Rotates, shifts and bits of the extended table -/

namespace Sys2Proof.Machine

/-! ## The bit that leaves, and the bit under test, as numbers -/

theorem getLsbD_seven_eq (v : Byte) : v.getLsbD 7 = decide (v.toNat ≥ 128) := by
  rw [← BitVec.msb_eq_getLsbD_last (x := v), BitVec.msb_eq_decide]

theorem getLsbD_zero_eq (v : Byte) : v.getLsbD 0 = decide (v.toNat % 2 = 1) := Nat.testBit_zero _

theorem not_getLsbD_eq (v : Byte) (n : Nat) : (!v.getLsbD n) = decide (v.toNat / 2 ^ n % 2 = 0) := by
  rw [BitVec.getLsbD, Nat.testBit_eq_decide_div_mod_eq, ← decide_not, decide_eq_decide]
  omega

/-! ## Shifts and SWAP as arithmetic (spec/45_cb_prefixed.md R238 to R244) -/

/-- SLA is RL with no bit entering. -/
theorem shiftLeft_one_eq (v : Byte) : v <<< 1 = BitVec.ofNat 8 (2 * v.toNat) := by
  simpa [num] using shiftLeft_or_lowBit v false

/-- SRL is RR with no bit entering. -/
theorem shiftRight_one_eq (v : Byte) : v >>> 1 = BitVec.ofNat 8 (v.toNat / 2) := by
  simpa [num] using shiftRight_or_highBit v false

/-- Keeping bit 7 is halving the signed value, rounded down. -/
theorem shiftRight_or_sign (v : Byte) : v >>> 1 ||| v &&& 0x80#8 = BitVec.ofInt 8 (v.toInt / 2) := by
  have hsign : ∀ i (h : i < 8), (0x80#8)[i] = decide (i = 7) := by decide
  show _ = BitVec.ofInt 8 (v.toInt / (2 ^ 1 : Nat))
  rw [← Int.shiftRight_eq_div_pow, ← BitVec.sshiftRight]
  ext i hi
  by_cases h7 : i < 7
  · have hsucc : 1 + i < 8 := by omega
    simp [BitVec.getElem_sshiftRight, hsign, hsucc, Nat.ne_of_lt h7, BitVec.getLsbD_eq_getElem]
  · obtain rfl : i = 7 := by omega
    simp [BitVec.getElem_sshiftRight, hsign, BitVec.msb_eq_getLsbD_last]

theorem swapped_nibbles_eq (v : Byte) : (v &&& 0x0F#8) <<< 4 ||| v >>> 4 = v.rotateLeft 4 := by
  have hnibble : ∀ i (h : i < 4), (0x0F#8)[i] = true := by decide
  ext i hi
  by_cases h4 : i < 4
  · have hadd : 4 + i < 8 := by omega
    simp [BitVec.getElem_rotateLeft, h4, hadd, BitVec.getLsbD_eq_getElem]
  · have hsub : i - 4 < 4 := by omega
    have hadd : 8 ≤ 4 + i := by omega
    simp [BitVec.getElem_rotateLeft, h4, hnibble _ hsub, BitVec.getLsbD_of_ge _ _ hadd]

/-! ## The eight operations of the `rot` field (R230 to R245) -/

/-- The machine's result is the second formula's value, with the flags of that value and of the bit that leaves. -/
theorem rotResult_eq (op : RotOp) (v : Byte) (f : Flags) :
    rotResult op v f = (rotValue op v f.c, shiftFlags (rotValue op v f.c) (rotCarry op v)) := by
  cases op with
  | rlc =>
    rw [rotResult, rlc8, shiftLeft_or_bit7, getLsbD_seven_eq]
    rfl
  | rrc =>
    rw [rotResult, rrc8, shiftRight_or_bit0, getLsbD_zero_eq]
    rfl
  | rl =>
    rw [rotResult, rl8, shiftLeft_or_lowBit, getLsbD_seven_eq]
    rfl
  | rr =>
    rw [rotResult, rr8, shiftRight_or_highBit, getLsbD_zero_eq]
    rfl
  | sla =>
    rw [rotResult, sla8, shiftLeft_one_eq, getLsbD_seven_eq]
    rfl
  | sra =>
    rw [rotResult, sra8, shiftRight_or_sign, getLsbD_zero_eq]
    rfl
  | swap =>
    rw [rotResult, swap8, swapped_nibbles_eq]
    rfl
  | srl =>
    rw [rotResult, srl8, shiftRight_one_eq, getLsbD_zero_eq]
    rfl

/-! ## The one bit RES and SET write (R248, R250) -/

theorem getLsbD_one_shiftLeft {n k : Nat} (hk : k < 8) : (1#8 <<< n).getLsbD k = decide (k = n) := by
  rw [← BitVec.twoPow_eq, BitVec.getLsbD_eq_getElem hk, BitVec.getElem_twoPow]

theorem getLsbD_clearBit (v : Byte) {n k : Nat} (hk : k < 8) :
    (clearBit n v).getLsbD k = (decide (k ≠ n) && v.getLsbD k) := by
  rw [clearBit, BitVec.getLsbD_and, BitVec.getLsbD_not, getLsbD_one_shiftLeft hk]
  simp [hk, Bool.and_comm]

theorem getLsbD_assertBit (v : Byte) {n k : Nat} (hk : k < 8) :
    (assertBit n v).getLsbD k = (decide (k = n) || v.getLsbD k) := by
  rw [assertBit, BitVec.getLsbD_or, getLsbD_one_shiftLeft hk, Bool.or_comm]

/-! ## Costs of the extended table (spec/70_reset_and_hazards.md R366) -/

theorem hasCost_rot (y z : BitVec 3) :
    HasCost true (opcode 0#2 y z) (if z = 6#3 then 16 else 8) (if z = 6#3 then 16 else 8) := by
  revert y z
  decide

theorem hasCost_testBit (b z : BitVec 3) :
    HasCost true (opcode 1#2 b z) (if z = 6#3 then 12 else 8) (if z = 6#3 then 12 else 8) := by
  revert b z
  decide

theorem hasCost_resetBit (b z : BitVec 3) :
    HasCost true (opcode 2#2 b z) (if z = 6#3 then 16 else 8) (if z = 6#3 then 16 else 8) := by
  revert b z
  decide

theorem hasCost_setBit (b z : BitVec 3) :
    HasCost true (opcode 3#2 b z) (if z = 6#3 then 16 else 8) (if z = 6#3 then 16 else 8) := by
  revert b z
  decide

/-! ## What each form answers, by whether its operand can be read -/

section

variable {s : State} {z : R8} {v : Byte}

theorem exec_rot_some (op : RotOp) (hread : s.r8 z = some v) :
    ∃ t, { s with flags := ⟨decide (rotValue op v s.flags.c = 0#8), false, false, rotCarry op v⟩ }.setR8 z
        (rotValue op v s.flags.c) = some t ∧ exec (.rot op z) s = .next t := by
  rw [exec_rot]
  exact exists_modifyR8 hread (rotResult_eq op v s.flags)

theorem exec_rot_none (op : RotOp) (hread : s.r8 z = none) :
    exec (.rot op z) s = stoppedAt (.invalidMemoryAccess s.hl .read) s := by
  rw [exec_rot]
  exact modifyR8_none hread

theorem exec_testBit_some (b : BitVec 3) (hread : s.r8 z = some v) :
    exec (.testBit b z) s =
      .next { s with flags := ⟨decide (v.toNat / 2 ^ b.toNat % 2 = 0), false, true, s.flags.c⟩ } := by
  rw [exec_testBit, testBitR8, readR8_some hread, testBitFlags, not_getLsbD_eq]

theorem exec_testBit_none (b : BitVec 3) (hread : s.r8 z = none) :
    exec (.testBit b z) s = stoppedAt (.invalidMemoryAccess s.hl .read) s := by
  rw [exec_testBit]
  exact readR8_none hread

theorem exec_resetBit_some (b : BitVec 3) (hread : s.r8 z = some v) :
    ∃ t, s.setR8 z (clearBit b.toNat v) = some t ∧ exec (.resetBit b z) s = .next t := by
  rw [exec_resetBit]
  exact exists_modifyR8 (g := fun v f => (clearBit b.toNat v, f)) hread rfl

theorem exec_resetBit_none (b : BitVec 3) (hread : s.r8 z = none) :
    exec (.resetBit b z) s = stoppedAt (.invalidMemoryAccess s.hl .read) s := by
  rw [exec_resetBit]
  exact modifyR8_none hread

theorem exec_setBit_some (b : BitVec 3) (hread : s.r8 z = some v) :
    ∃ t, s.setR8 z (assertBit b.toNat v) = some t ∧ exec (.setBit b z) s = .next t := by
  rw [exec_setBit]
  exact exists_modifyR8 (g := fun v f => (assertBit b.toNat v, f)) hread rfl

theorem exec_setBit_none (b : BitVec 3) (hread : s.r8 z = none) :
    exec (.setBit b z) s = stoppedAt (.invalidMemoryAccess s.hl .read) s := by
  rw [exec_setBit]
  exact modifyR8_none hread

end

/-! ## The statements -/

/-- Settles O47: each operation is one read-modify-write of its value and flags. -/
theorem rotatesOfExtendedTable : Obligations.RotatesOfExtendedTable := fun y z _ =>
  ⟨hasEncoding_of_encode (encode_rot y z), hasCost_rot y z, fun _ _ => exec_rot_some _, fun _ => exec_rot_none _⟩

/-- Settles O48: the other four rows of the same block, so the same read-modify-write. -/
theorem shiftsAndSwap : Obligations.ShiftsAndSwap := fun y z _ =>
  ⟨hasEncoding_of_encode (encode_rot y z), hasCost_rot y z, fun _ _ => exec_rot_some _, fun _ => exec_rot_none _⟩

/-- Settles O49: BIT is a read alone; RES and SET are a read-modify-write with the flags they found. -/
theorem bitTestResetSet : Obligations.BitTestResetSet := by
  intro b z
  refine ⟨hasEncoding_of_encode (encode_testBit b z), hasCost_testBit b z, hasEncoding_of_encode (encode_resetBit b z),
    hasCost_resetBit b z, hasEncoding_of_encode (encode_setBit b z), hasCost_setBit b z,
    fun s v hread => ⟨exec_testBit_some b hread, ?_, ?_⟩,
    fun s hnone => ⟨exec_testBit_none b hnone, exec_resetBit_none b hnone, exec_setBit_none b hnone⟩⟩
  · obtain ⟨t, hwrite, hexec⟩ := exec_resetBit_some b hread
    exact ⟨t, _, hwrite, hexec, fun k => getLsbD_clearBit v⟩
  · obtain ⟨t, hwrite, hexec⟩ := exec_setBit_some b hread
    exact ⟨t, _, hwrite, hexec, fun k => getLsbD_assertBit v⟩

end Sys2Proof.Machine

/-! # System instructions and the illegal opcodes -/

namespace Sys2Proof.Machine

/-! ## An illegal opcode (spec/46_system.md R265, spec/40_step_and_dispatch.md R119) -/

section

variable {s : State} {i : Instr} {op : Byte}

/-- Where the table holds no entry the lookup raises; where it holds one, the instruction raises the same condition, for `pc` is
then one past the opcode byte. -/
theorem stepWith_illegal (cfg : Config) (hentry : primary op = .plain i) (hexec : exec i = illegal op) (hrunning : s.Running)
    (hop : (bootUnmapCheck s).peek s.pc = some op) :
    stepWith cfg s = stoppedAt (.unimplementedInstruction false op s.pc s.pc) { bootUnmapCheck s with pc := s.pc + 1 } := by
  rw [← bootUnmapCheck_pc] at hop ⊢
  rw [stepWith_running hrunning.fault hrunning.halted, runInstruction, fetch8_some hop]
  simp only [hentry]
  cases himpl : cfg.impl false op with
  | false => exact enter_absent himpl
  | true =>
    rw [enter_present himpl, hexec, illegal, settle_raise, BitVec.add_sub_cancel]
    rfl

/-- The row of an illegal opcode, whose entry is one instruction that raises. -/
theorem illegal_row (hencode : encode i = [op]) (hentry : primary op = .plain i) (hexec : exec i = illegal op) :
    HasEncoding i [op] ∧
    (∀ s : State, exec i s = stoppedAt (.unimplementedInstruction false op (s.pc - 1) (s.pc - 1)) s) ∧
    (∀ (cfg : Config) (s : State), s.Running → (bootUnmapCheck s).peek s.pc = some op →
      stepWith cfg s = stoppedAt (.unimplementedInstruction false op s.pc s.pc)
        { bootUnmapCheck s with pc := s.pc + 1 }) :=
  ⟨hasEncoding_of_encode hencode, congrFun hexec, fun cfg _ => stepWith_illegal cfg hentry hexec⟩

end

/-! ## The statements -/

/-- Settles O51: the eleven opcodes are eleven rows of one form. -/
theorem illegalOpcodesStop : Obligations.IllegalOpcodesStop := by
  unfold Obligations.IllegalOpcodesStop
  simp only [List.forall_mem_cons]
  exact ⟨illegal_row rfl rfl rfl, illegal_row rfl rfl rfl, illegal_row rfl rfl rfl, illegal_row rfl rfl rfl,
    illegal_row rfl rfl rfl, illegal_row rfl rfl rfl, illegal_row rfl rfl rfl, illegal_row rfl rfl rfl,
    illegal_row rfl rfl rfl, illegal_row rfl rfl rfl, illegal_row rfl rfl rfl, List.forall_mem_nil _⟩

/-- Settles O50: each instruction writes its one switch; the byte STOP ignores is an immediate, so the step fetches it. -/
theorem systemInstructions : Obligations.SystemInstructions := by
  refine ⟨?_, fun ignored => ?_, fun s ignored => ⟨rfl, rfl, rfl, rfl, rfl⟩⟩
  · exact ⟨hasEncoding_of_encode rfl, by decide, hasEncoding_of_encode rfl, by decide, hasEncoding_of_encode rfl, by decide,
      hasEncoding_of_encode rfl, by decide⟩
  · exact ⟨hasEncoding_of_encode rfl, by decide, immediateFetchStops_of_imm8 (f := .stop) rfl⟩

end Sys2Proof.Machine

/-! # Fatal conditions: when a step raises one, and what it leaves -/

namespace Sys2Proof.Machine

/-! ## The opcode fetch and the lookup (spec/60_exceptions.md R301, R304) -/

section

variable {cfg : Config} {s : State} {op key : Byte}

/-- The opcode is not the escape and has no entry: the lookup raises whatever immediates the opcode would have fetched. -/
theorem runInstruction_absent (hop : s.peek s.pc = some op) (hne : op ≠ 0xCB#8) (himpl : cfg.impl false op = false) :
    runInstruction cfg s = raise (.unimplementedInstruction false op s.pc s.pc) { s with pc := s.pc + 1 } := by
  rw [runInstruction, fetch8_some hop]
  cases hentry : primary op with
  | escape => exact absurd (eq_escape_of_primary hentry) hne
  | plain _ | imm8 _ | imm16 _ => exact enter_absent himpl

/-- The escape makes the step fetch a second byte, which the extended table is looked up with. -/
theorem runInstruction_escape (hop : s.peek s.pc = some 0xCB#8) :
    runInstruction cfg s = fetch8 { s with pc := s.pc + 1 } fun key u =>
      enter cfg true key (s.pc + 1) s.pc u (exec (extended key)) := by
  rw [runInstruction, fetch8_some hop]
  rfl

theorem runInstruction_extended_absent (hop : s.peek s.pc = some 0xCB#8) (hkey : s.peek (s.pc + 1) = some key)
    (himpl : cfg.impl true key = false) :
    runInstruction cfg s =
      raise (.unimplementedInstruction true key (s.pc + 1) s.pc) { s with pc := s.pc + 1 + 1 } := by
  have hfetch : { s with pc := s.pc + 1 }.peek (s.pc + 1) = some key := hkey
  rw [runInstruction_escape hop, fetch8_some hfetch, enter_absent himpl]

theorem runInstruction_fetch_none (hop : s.peek s.pc = none) :
    runInstruction cfg s = raise (.invalidMemoryAccess s.pc .fetch) s := by
  rw [runInstruction, fetch8_none hop]

theorem runInstruction_extended_fetch_none (hop : s.peek s.pc = some 0xCB#8) (hkey : s.peek (s.pc + 1) = none) :
    runInstruction cfg s = raise (.invalidMemoryAccess (s.pc + 1) .fetch) { s with pc := s.pc + 1 } := by
  have hfetch : { s with pc := s.pc + 1 }.peek (s.pc + 1) = none := hkey
  rw [runInstruction_escape hop, fetch8_none hfetch]

end

/-- Settles O11: both lookups raise after the fetches alone, in the primary table and after the escape. -/
theorem absentEntryStops : Obligations.AbsentEntryStops := by
  intro cfg s hrunning
  rw [stepWith_running hrunning.fault hrunning.halted, ← bootUnmapCheck_pc]
  have hpc : (bootUnmapCheck s).pc + 2 = (bootUnmapCheck s).pc + 1 + 1 := (BitVec.add_assoc _ 1 1).symm
  rw [hpc]
  exact ⟨fun op hne hop himpl => runInstruction_absent hop hne himpl,
    fun key hop hkey himpl => runInstruction_extended_absent hop hkey himpl⟩

/-- Settles O12: the fetch of an opcode byte raises before anything is looked up. -/
theorem opcodeFetchFaultPrecedesLookup : Obligations.OpcodeFetchFaultPrecedesLookup := by
  intro cfg s hrunning
  rw [stepWith_running hrunning.fault hrunning.halted, ← bootUnmapCheck_pc]
  exact ⟨runInstruction_fetch_none, runInstruction_extended_fetch_none⟩

/-! ## A step completes or stops (spec/60_exceptions.md R302, spec/70_reset_and_hazards.md R357) -/

section

variable {cfg : Config} {s : State} {refusal : Refusal}

theorem fetch8_ne_refused {f : Byte → State → Out} (hf : ∀ v u, f v u ≠ .refused refusal) :
    fetch8 s f ≠ .refused refusal := by
  cases h : s.peek s.pc with
  | none => rw [fetch8_none h]; exact nofun
  | some v => rw [fetch8_some h]; exact hf v _

theorem settle_ne_refused {p : CostPair} {o : Out} (h : o ≠ .refused refusal) : settle p o ≠ .refused refusal := by
  cases o with
  | next _ | fault _ => exact nofun
  | refused _ => exact h

theorem enter_ne_refused {escaped : Bool} {opAddr instrAddr : Word} {key : Byte} {handler : State → Out}
    (h : handler s ≠ .refused refusal) : enter cfg escaped key opAddr instrAddr s handler ≠ .refused refusal := by
  cases himpl : cfg.impl escaped key with
  | false => rw [enter_absent himpl]; exact nofun
  | true => rw [enter_present himpl]; exact settle_ne_refused h

/-- No instruction is refused, so no step is. -/
theorem runInstruction_ne_refused : runInstruction cfg s ≠ .refused refusal := by
  unfold runInstruction
  refine fetch8_ne_refused fun op u => ?_
  cases primary op with
  | escape => exact fetch8_ne_refused fun key u => enter_ne_refused (exec_ne_refused _ u _)
  | plain i => exact enter_ne_refused (exec_ne_refused i u _)
  | imm8 f => exact enter_ne_refused (fetch8_ne_refused fun v u => exec_ne_refused _ u _)
  | imm16 f =>
    exact enter_ne_refused (fetch8_ne_refused fun lo u => fetch8_ne_refused fun hi u => exec_ne_refused _ u _)

theorem stepWith_ne_refused : stepWith cfg s ≠ .refused refusal := by
  cases hfault : s.fault with
  | some c => rw [stepWith_stopped hfault]; exact nofun
  | none =>
    cases hhalted : s.halted with
    | true => rw [stepWith_halted hfault hhalted]; exact nofun
    | false => rw [stepWith_running hfault hhalted]; exact runInstruction_ne_refused

theorem closed_fault (c : Option FatalCondition) : Closed fun t => t.fault = c where
  regs h hr := hr.fault.trans h
  poke h hp := by
    rw [State.poke_frame hp]
    exact h

/-- A step that stops leaves its condition recorded, whether it raised it or found it. -/
theorem stepWith_fault_recorded {c : FatalCondition} {t : State} (h : stepWith cfg s = .fault (.fatal c t)) :
    t.fault = some c := by
  cases hfault : s.fault with
  | some c' =>
    rw [stepWith_stopped hfault] at h
    cases h
    exact hfault
  | none =>
    obtain ⟨c', u, -, heq⟩ := (closed_fault none).stepWith_fault (by simpa using hfault) hfault h
    cases heq
    rfl

/-- A step that completes neither found a fault nor leaves one. -/
theorem stepWith_next_fault {t : State} (h : stepWith cfg s = .next t) : s.fault = none ∧ t.fault = none := by
  have hfault : s.fault = none := by
    obtain ⟨hnone, -⟩ | ⟨hrunning, -⟩ := stepWith_next_cases h
    · exact hnone
    · exact hrunning.fault
  obtain ⟨cost, u, hu, rfl⟩ := (closed_fault none).stepWith_next (by simpa using hfault) h
  exact ⟨hfault, hu⟩

end

/-- Settles O9: nothing is refused, and a recorded condition is answered again by every step. -/
theorem stepCompletesOrStaysStopped : Obligations.StepCompletesOrStaysStopped := by
  intro cfg s
  cases h : stepWith cfg s with
  | next t => exact .inl ⟨t, rfl, stepWith_next_fault h⟩
  | fault r =>
    obtain ⟨c, t⟩ := r
    have hrecorded := stepWith_fault_recorded h
    exact .inr ⟨c, t, rfl, hrecorded, fun cfg' => stepWith_stopped hrecorded⟩
  | refused r => exact absurd h stepWith_ne_refused

/-! ## An instruction that stops has not set `notTaken` (spec/40_step_and_dispatch.md R116, R120)

The flag is no part of what a `Closed` property may speak of, since a failed condition sets it; but an instruction that
sets it completes. -/

/-- If the answer is a fault, the state it stopped in has this `notTaken`. -/
def StopKeeps (b : Bool) : Out → Prop
  | .fault (.fatal _ u) => u.notTaken = b
  | .next _ | .refused _ => True

section

variable {b : Bool} {s t : State}

theorem StopKeeps.of_eq {o o' : Out} (h : StopKeeps b o') (heq : o = o') : StopKeeps b o := heq ▸ h

theorem stopKeeps_next (b : Bool) (t : State) : StopKeeps b (.next t) := trivial

theorem State.notTaken_poke {addr : Word} {v : Byte} (h : s.poke addr v = some t) : t.notTaken = s.notTaken :=
  congrArg Prod.snd (State.status_poke h)

/-! ## Accesses -/

theorem stopKeeps_readByte {k : AccessKind} {addr : Word} {f : Byte → Out} (hs : s.notTaken = b)
    (hf : ∀ v, StopKeeps b (f v)) : StopKeeps b (readByte k addr s f) := by
  cases h : s.peek addr with
  | none => rw [readByte_none h]; exact hs
  | some v => rw [readByte_some h]; exact hf v

theorem stopKeeps_writeByte {addr : Word} {v : Byte} {f : State → Out} (hs : s.notTaken = b)
    (hf : ∀ t, t.notTaken = b → StopKeeps b (f t)) : StopKeeps b (writeByte addr v s f) := by
  cases h : s.poke addr v with
  | none => rw [writeByte_none h]; exact hs
  | some t => rw [writeByte_some h]; exact hf t ((State.notTaken_poke h).trans hs)

theorem stopKeeps_readR8 {z : R8} {f : Byte → Out} (hs : s.notTaken = b) (hf : ∀ v, StopKeeps b (f v)) :
    StopKeeps b (readR8 z s f) := by
  cases h : s.r8 z with
  | none => rw [readR8_none h]; exact hs
  | some v => rw [readR8_some h]; exact hf v

theorem stopKeeps_writeR8 {z : R8} {v : Byte} (hs : s.notTaken = b) : StopKeeps b (writeR8 z v s .next) := by
  cases h : s.setR8 z v with
  | none => rw [writeR8_none h]; exact hs
  | some t => rw [writeR8_some h]; exact stopKeeps_next b t

theorem stopKeeps_push {v : Word} {f : State → Out} (hs : s.notTaken = b)
    (hf : ∀ t, t.notTaken = b → StopKeeps b (f t)) : StopKeeps b (push v s f) :=
  stopKeeps_writeByte hs fun _ ht => stopKeeps_writeByte ht hf

theorem stopKeeps_pop {f : Word → State → Out} (hs : s.notTaken = b) (hf : ∀ v t, StopKeeps b (f v t)) :
    StopKeeps b (pop s f) :=
  stopKeeps_readByte hs fun _ => stopKeeps_readByte hs fun _ => hf _ _

/-! ## The families' shared forms -/

theorem stopKeeps_loadR8 {dst src : R8} (hs : s.notTaken = b) : StopKeeps b (loadR8 dst src s) :=
  stopKeeps_readR8 hs fun _ => stopKeeps_writeR8 hs

theorem stopKeeps_modifyR8 {g : Byte → Flags → Byte × Flags} {z : R8} (hs : s.notTaken = b) :
    StopKeeps b (modifyR8 g z s) :=
  stopKeeps_readR8 hs fun _ => stopKeeps_writeR8 hs

theorem stopKeeps_loadA {addr : Word} (hs : s.notTaken = b) : StopKeeps b (loadA addr s) :=
  stopKeeps_readByte hs fun _ => stopKeeps_next b _

theorem stopKeeps_loadAThen {hl : Word} (hs : s.notTaken = b) : StopKeeps b (loadAThen hl s) :=
  stopKeeps_readByte hs fun _ => stopKeeps_next b _

theorem stopKeeps_storeA {addr : Word} (hs : s.notTaken = b) : StopKeeps b (storeA addr s) :=
  stopKeeps_writeByte hs fun t _ => stopKeeps_next b t

theorem stopKeeps_storeAThen {hl : Word} (hs : s.notTaken = b) : StopKeeps b (storeAThen hl s) :=
  stopKeeps_writeByte hs fun _ _ => stopKeeps_next b _

theorem stopKeeps_writeWord {addr v : Word} (hs : s.notTaken = b) : StopKeeps b (writeWord addr v s .next) :=
  stopKeeps_writeByte hs fun _ ht => stopKeeps_writeByte ht fun u _ => stopKeeps_next b u

theorem stopKeeps_callTo {target : Word} (hs : s.notTaken = b) : StopKeeps b (callTo target s) :=
  stopKeeps_push hs fun _ _ => stopKeeps_next b _

theorem stopKeeps_returnFrom (hs : s.notTaken = b) : StopKeeps b (returnFrom s) :=
  stopKeeps_pop hs fun _ _ => stopKeeps_next b _

/-- A failed condition sets the flag and completes. -/
theorem stopKeeps_onCond {cc : Cond} {f : State → Out} (hf : StopKeeps b (f s)) : StopKeeps b (onCond cc f s) := by
  cases h : s.holds cc with
  | true => rwa [onCond_of_holds h]
  | false =>
    rw [onCond, h]
    exact stopKeeps_next b _

/-! ## Every instruction -/

theorem stopKeeps_loadA_block (p : BitVec 2) (hs : s.notTaken = b) : StopKeeps b (exec (.loadA p) s) := by
  revert p
  exact forall_field2 (stopKeeps_loadA hs) (stopKeeps_loadA hs) (stopKeeps_loadAThen hs) (stopKeeps_loadAThen hs)

theorem stopKeeps_storeA_block (p : BitVec 2) (hs : s.notTaken = b) : StopKeeps b (exec (.storeA p) s) := by
  revert p
  exact forall_field2 (stopKeeps_storeA hs) (stopKeeps_storeA hs) (stopKeeps_storeAThen hs) (stopKeeps_storeAThen hs)

theorem stopKeeps_accumulator (y : BitVec 3) : StopKeeps b (exec (.accumulator y) s) := by
  revert y
  apply forall_field3 <;> exact stopKeeps_next b _

theorem stopKeeps_illegal {i : Instr} (hi : i.wellFormed = false) (hs : s.notTaken = b) : StopKeeps b (exec i s) := by
  cases i with
  | illegalD3 | illegalDB | illegalDD | illegalE3 | illegalE4 | illegalEB | illegalEC | illegalED | illegalF4
  | illegalFC | illegalFD => exact hs
  | _ => cases hi

theorem stopKeeps_exec (i : Instr) (hs : s.notTaken = b) : StopKeeps b (exec i s) := by
  cases i.block with
  | nop | stop _ | halt | di | ei | addSpE8 _ | ldHlSpE8 _ | jpHl | ldSpHl | jpA16 _ | jrE8 _ => exact stopKeeps_next b _
  | ldPair p v => exact (stopKeeps_next b _).of_eq (exec_ldPair s p v)
  | incPair p => exact (stopKeeps_next b _).of_eq (exec_incPair s p)
  | decPair p => exact (stopKeeps_next b _).of_eq (exec_decPair s p)
  | addHl p => exact (stopKeeps_next b _).of_eq (exec_addHl s p)
  | aluImm op v => exact (stopKeeps_next b _).of_eq (exec_aluImm s op v)
  | accumulator y => exact stopKeeps_accumulator y
  | illegal hi => exact stopKeeps_illegal hi hs
  | ldAtA16Sp _ => exact stopKeeps_writeWord hs
  | ldhAtA8A _ | ldAtCA | ldAtA16A _ => exact stopKeeps_storeA hs
  | ldhAAtA8 _ | ldAAtC | ldAAtA16 _ => exact stopKeeps_loadA hs
  | loadA p => exact stopKeeps_loadA_block p hs
  | storeA p => exact stopKeeps_storeA_block p hs
  | ldImm z v => exact (stopKeeps_writeR8 hs).of_eq (exec_ldImm s z v)
  | ld dst src hne => exact (stopKeeps_loadR8 hs).of_eq (exec_ld s hne)
  | alu op z => exact (stopKeeps_readR8 hs fun _ => stopKeeps_next b _).of_eq (exec_alu s op z)
  | testBit y z => exact (stopKeeps_readR8 hs fun _ => stopKeeps_next b _).of_eq (exec_testBit s y z)
  | inc z => exact (stopKeeps_modifyR8 hs).of_eq (exec_inc s z)
  | dec z => exact (stopKeeps_modifyR8 hs).of_eq (exec_dec s z)
  | rot op z => exact (stopKeeps_modifyR8 hs).of_eq (exec_rot s op z)
  | resetBit y z => exact (stopKeeps_modifyR8 hs).of_eq (exec_resetBit s y z)
  | setBit y z => exact (stopKeeps_modifyR8 hs).of_eq (exec_setBit s y z)
  | push p => exact (stopKeeps_push hs fun t _ => stopKeeps_next b t).of_eq (exec_push s p)
  | pop p => exact (stopKeeps_pop hs fun _ _ => stopKeeps_next b _).of_eq (exec_pop s p)
  | ret => exact stopKeeps_returnFrom hs
  | reti => exact (stopKeeps_pop hs fun _ _ => stopKeeps_next b _).of_eq (exec_reti s)
  | callA16 _ => exact stopKeeps_callTo hs
  | rst y => exact (stopKeeps_callTo hs).of_eq (exec_rst s y)
  | jr cc e =>
    rw [exec_jr]
    exact stopKeeps_onCond (stopKeeps_next b _)
  | jp cc a =>
    rw [exec_jp]
    exact stopKeeps_onCond (stopKeeps_next b _)
  | call cc a => exact (stopKeeps_onCond (stopKeeps_callTo hs)).of_eq (exec_call s cc a)
  | retIf cc => exact (stopKeeps_onCond (stopKeeps_returnFrom hs)).of_eq (exec_retIf s cc)

theorem notTaken_of_stepWith_fault {cfg : Config} {c : FatalCondition} (hfault : s.fault = none)
    (h : stepWith cfg s = .fault (.fatal c t)) : t.notTaken = s.notTaken := by
  obtain ⟨c', pc, hraise⟩ | ⟨i, pc, hexec⟩ := stepWith_fault hfault h
  · cases hraise
    exact bootUnmapCheck_notTaken s
  · have hkeeps := stopKeeps_exec i (s := { bootUnmapCheck s with pc := pc }) (bootUnmapCheck_notTaken s)
    rwa [hexec] at hkeeps

end

/-- Settles O10: a step from a stopped state answers that state; else only an instruction's own effects came before the
condition, and they reach no clock, no timing and no picture. -/
theorem stoppedStepChargesNothing : Obligations.StoppedStepChargesNothing := by
  intro cfg s c t h
  cases hfault : s.fault with
  | some c' =>
    rw [stepWith_stopped hfault] at h
    cases h
    exact ⟨rfl, rfl, rfl, rfl, rfl, rfl, rfl, rfl, rfl⟩
  | none =>
    have hnotTaken := notTaken_of_stepWith_fault hfault h
    obtain ⟨c', u, hu, heq⟩ := (closed_timing (bootUnmapCheck s)).stepWith_fault
      ⟨rfl, rfl, rfl, rfl, rfl, rfl, rfl, rfl, rfl, rfl⟩ hfault h
    cases heq
    obtain ⟨hcoarse, hfine, -, -, hevents, hmode, hline, hclock, hfb, hframes⟩ := by simpa using hu
    exact ⟨hcoarse, hfine, hmode, hline, hclock, hfb, hframes, hevents, hnotTaken⟩

end Sys2Proof.Machine

/-! # The Display Unit: its timing, the frame and the picture -/

namespace Sys2Proof.Machine

/-! ## One advance (spec/60_exceptions.md R320 to R324) -/

/-- Settles O52: below the budget an advance counts, and from it on it completes the mode, which is one case each. -/
theorem advanceCompletesOneMode : Obligations.AdvanceCompletesOneMode := by
  intro d mem n budget
  have hbudget : budget = d.mode.budget := by
    simp only [budget]
    cases d.mode <;> rfl
  refine ⟨fun hlt => Display.advance_of_lt (hbudget ▸ hlt), fun hge => ?_⟩
  rw [hbudget] at hge
  cases hmode : d.mode <;> rw [hmode, Mode.budget] at hge
  case oamScan => exact Display.advance_oamScan hmode hge
  case vramRead => exact Display.advance_vramRead hmode hge
  case hBlank =>
    rw [Display.advance_hBlank hmode hge, Display.completeHBlank]
    by_cases hline : d.scanline + 1 = 143
    · simp only [hline, if_true]
    · simp only [if_neg hline]
  case vBlank =>
    rw [Display.advance_vBlank hmode hge, Display.completeVBlank, hmode]
    by_cases hline : 153 ≤ d.scanline
    · rw [if_pos (by omega)]
      simp only [ge_iff_le, if_pos hline]
    · rw [if_neg (by omega)]
      simp only [ge_iff_le, if_neg hline]

/-! ## The frame (R325)

A frame is a count of cycles: the lines before, the modes of this line before, and the mode clock. -/

/-- The display cycle of the line at which the mode begins. -/
def Mode.start : Mode → Nat
  | .oamScan | .vBlank => 0
  | .vramRead => 80
  | .hBlank => 252

/-- The display `e` is at cycle `c` of the frame that began as `d`. -/
structure Display.AtCycle (d : Display) (c : Nat) (e : Display) : Prop where
  timed : e.Timed
  cycle : c = 456 * e.scanline + e.mode.start + e.modeClock
  frames : e.frames = if e.mode = .vBlank then d.frames + 1 else d.frames
  lastRow : e.fb.row 143 = d.fb.row 143

/-- An argument of `advance` that a step makes of a cost: 1, 2 or 4 cycles. Each mode's budget is a multiple of it. -/
def IsAdvance (n : Nat) : Prop := n = 1 ∨ n = 2 ∨ n = 4

section

variable {d e : Display} {mem : Memory} {c n : Nat}

theorem Display.atCycle_zero (hmode : d.mode = .oamScan) (hline : d.scanline = 0) (hclock : d.modeClock = 0) :
    d.AtCycle 0 d where
  timed := ⟨by omega, by simp [hmode, hline], by simp [hmode, hclock, Mode.budget]⟩
  cycle := by simp [hmode, hline, hclock, Mode.start]
  frames := by simp [hmode]
  lastRow := rfl

/-- Advances that divide every budget complete a mode without excess. -/
theorem Display.AtCycle.modeClock_add_le (h : d.AtCycle c e) (hn : IsAdvance n) (hc : n ∣ c) :
    e.modeClock + n ≤ e.mode.budget := by
  have hcycle := h.cycle
  have hclock := h.timed.modeClock
  cases hmode : e.mode <;> simp only [hmode, Mode.start, Mode.budget] at hcycle hclock ⊢ <;>
    obtain rfl | rfl | rfl := hn <;> omega

/-- An advance that fills the mode's budget goes on to the next mode's start, but for the frame's last. -/
theorem Display.AtCycle.advance_full (h : d.AtCycle c e) (hfull : e.modeClock + n = e.mode.budget)
    (hlt : c + n < 70224) : d.AtCycle (c + n) (e.advance mem n).1 := by
  have htimed : (e.advance mem n).1.Timed := h.timed.advance
  have hcycle := h.cycle
  have hframes := h.frames
  cases hmode : e.mode <;>
    simp only [hmode, Mode.budget, Mode.start, reduceCtorEq, if_true, if_false] at hfull hcycle hframes
  case oamScan =>
    rw [Display.advance_oamScan hmode (Nat.le_of_eq hfull.symm)] at htimed ⊢
    exact ⟨htimed, by simp only [Display.completeOamScan, Mode.start]; omega, hframes, h.lastRow⟩
  case vramRead =>
    have hline := h.timed.scanline_lt (by simp [hmode])
    rw [Display.advance_vramRead hmode (Nat.le_of_eq hfull.symm)] at htimed ⊢
    exact ⟨htimed, by simp only [Display.completeVramRead, Display.renderScanline, Mode.start]; omega, hframes,
      (Framebuffer.row_setRow_of_ne (by omega)).trans h.lastRow⟩
  case hBlank =>
    rw [Display.advance_hBlank hmode (Nat.le_of_eq hfull.symm), Display.completeHBlank] at htimed ⊢
    by_cases hline : e.scanline + 1 = 143
    · rw [if_pos hline] at htimed ⊢
      exact ⟨htimed, by simp only [Mode.start]; omega, congrArg (· + 1) hframes, h.lastRow⟩
    · rw [if_neg hline] at htimed ⊢
      exact ⟨htimed, by simp only [Mode.start]; omega, hframes, h.lastRow⟩
  case vBlank =>
    have hline : ¬ e.scanline + 1 > 153 := by omega
    rw [Display.advance_vBlank hmode (Nat.le_of_eq hfull.symm), Display.completeVBlank, if_neg hline] at htimed ⊢
    exact ⟨htimed, by simp only [hmode, Mode.start]; omega, by simpa only [hmode, if_true] using hframes, h.lastRow⟩

/-- An advance that does not end the frame goes on in it. -/
theorem Display.AtCycle.advance (h : d.AtCycle c e) (hn : IsAdvance n) (hc : n ∣ c) (hlt : c + n < 70224) :
    d.AtCycle (c + n) (e.advance mem n).1 := by
  obtain hcount | hfull := Nat.lt_or_eq_of_le (h.modeClock_add_le hn hc)
  · have hcycle := h.cycle
    rw [Display.advance_of_lt hcount]
    exact ⟨⟨h.timed.scanline, h.timed.vBlank, hcount⟩, by simp only; omega, h.frames, h.lastRow⟩
  · exact h.advance_full hfull hlt

/-- The display is at the cycle the advances add up to, as long as the frame lasts. -/
theorem Display.atCycle_advances (h : d.AtCycle 0 d) (mems : Nat → Memory) (hn : IsAdvance n) {k : Nat}
    (hk : k * n < 70224) : d.AtCycle (k * n) (d.advances mems n k) := by
  induction k with
  | zero => rwa [Nat.zero_mul]
  | succ k ih =>
    rw [Nat.succ_mul] at hk ⊢
    exact (ih (by omega)).advance hn (Nat.dvd_mul_left n k) hk

/-- VBlank is shown from cycle 143 × 456 = 65208 of the frame on. -/
theorem Display.AtCycle.vBlank_iff (h : d.AtCycle c e) : e.mode = .vBlank ↔ 65208 ≤ c := by
  have hcycle := h.cycle
  have hclock := h.timed.modeClock
  rw [h.timed.vBlank]
  cases hmode : e.mode <;> simp only [hmode, Mode.start, Mode.budget] at hcycle hclock <;> omega

/-- An advance that reaches cycle 154 × 456 = 70224 ends the last line of VBlank. -/
theorem Display.AtCycle.advance_last (h : d.AtCycle c e) (hn : IsAdvance n) (hlast : c + n = 70224)
    (hvBlank : e.mode = .vBlank) :
    (e.advance mem n).1 = { e with mode := .oamScan, modeClock := 0, scanline := 0 } := by
  have hcycle := h.cycle
  have hclock := h.timed.modeClock
  have hscanline := h.timed.scanline
  simp only [hvBlank, Mode.start, Mode.budget] at hcycle hclock
  have hn : n = 1 ∨ n = 2 ∨ n = 4 := hn
  rw [Display.advance_vBlank hvBlank (by omega), Display.completeVBlank, if_pos (by omega)]

end

/-- Settles O53: the display stays at the cycle the advances add up to; VBlank lasts from cycle 65208 to the end, which the
last advance reaches. -/
theorem frameSequence : Obligations.FrameSequence := by
  intro d mems n hn hmode hline hclock
  have hcycle {k : Nat} (hk : k * n < 70224) : d.AtCycle (k * n) (d.advances mems n k) :=
    Display.atCycle_advances (Display.atCycle_zero hmode hline hclock) mems hn hk
  refine ⟨fun k hk => ?_, ?_, ?_⟩
  · have h := hcycle (k := k) (by omega)
    have hne : (d.advances mems n k).mode ≠ .vBlank := fun hv => by
      have := h.vBlank_iff.mp hv
      omega
    exact ⟨hne, by simpa [hne] using h.frames⟩
  · have hk : 65208 / n * n = 65208 := by obtain rfl | rfl | rfl := hn <;> rfl
    have h := hcycle (k := 65208 / n) (by omega)
    rw [hk] at h
    have hv := h.vBlank_iff.mpr (Nat.le_refl _)
    have hat := h.cycle
    have hge := h.timed.vBlank.mp hv
    rw [hv, Mode.start] at hat
    exact ⟨hv, by omega, by omega, by simpa [hv] using h.frames⟩
  · obtain ⟨k, hk, hlast⟩ : ∃ k, 70224 / n = k + 1 ∧ k * n + n = 70224 := by
      obtain rfl | rfl | rfl := hn
      · exact ⟨70223, rfl, rfl⟩
      · exact ⟨35111, rfl, rfl⟩
      · exact ⟨17555, rfl, rfl⟩
    have h := hcycle (k := k) (by omega)
    have hv := h.vBlank_iff.mpr (by omega)
    rw [hk, Display.advances, h.advance_last hn hlast hv]
    exact ⟨rfl, rfl, rfl, by simpa [hv] using h.frames, h.lastRow⟩

/-! ## The picture (R330 to R334) -/

section

variable (d : Display) (mem : Memory)

/-- A pixel of the renderer's loop, by its place counted from pixel 0 of the tile the loop began in. -/
theorem Display.renderPixels_getElem? (row y : Nat) {n x col i : Nat} (hx : x < 8) (hcol : col < 32) (hi : i < n) :
    (d.renderPixels mem row y n x col (d.mapEntry mem row col))[i]? =
      some (d.shade (d.colourIndex mem (d.mapEntry mem row ((col + (x + i) / 8) % 32)) y ((x + i) % 8))) := by
  induction n generalizing x col i with
  | zero => omega
  | succ n ih =>
    rw [Display.renderPixels]
    cases i with
    | zero => simp [Nat.div_eq_of_lt hx, Nat.mod_eq_of_lt hx, Nat.mod_eq_of_lt hcol]
    | succ i =>
      rw [List.getElem?_cons_succ]
      split
      · rename_i hlast
        have hcolumn : ((col + 1) % 32 + (0 + i) / 8) % 32 = (col + (x + (i + 1)) / 8) % 32 := by omega
        have hplace : (0 + i) % 8 = (x + (i + 1)) % 8 := by omega
        rw [ih (by omega) (by omega) (by omega), hcolumn, hplace]
      · rw [ih (by omega) hcol (by omega), show x + 1 + i = x + (i + 1) by omega]

/-- The tile and the place in it that pixel `px` of the current scanline shows (R333). -/
theorem Display.renderRow_getElem? {px : Nat} (hpx : px < 160) :
    (d.renderRow mem)[px]? =
      some (d.shade (d.colourIndex mem
        (d.mapEntry mem (d.bgLine / 8) ((d.scx.toNat / 8 + (d.scx.toNat % 8 + px) / 8) % 32)) (d.bgLine % 8)
        ((d.scx.toNat % 8 + px) % 8))) := by
  have hscx := d.scx.isLt
  exact d.renderPixels_getElem? mem _ _ (by omega) (by omega) hpx

theorem Display.shade_eq (idx : Nat) : d.shade idx = BitVec.ofNat 2 (d.bgp.toNat / 4 ^ idx) := by
  rw [Display.shade, Nat.shiftRight_eq_div_pow, Nat.pow_mul]

theorem num_eq_toNat (b : Bool) : num b = b.toNat := by cases b <;> rfl

theorem Display.tileAddr_eq (t : Byte) :
    d.tileAddr t =
      (if d.lcdc.getLsbD 4 then 0x8000 + 16 * (t.toNat : Int) else 0x9000 + 16 * t.toInt : Int).toNat := by
  unfold Display.tileAddr
  split <;> omega

/-- What the renderer makes of a pixel is the closed form. -/
theorem Display.shade_colourIndex_eq (px : Nat) :
    d.shade (d.colourIndex mem
        (d.mapEntry mem (d.bgLine / 8) ((d.scx.toNat / 8 + (d.scx.toNat % 8 + px) / 8) % 32)) (d.bgLine % 8)
        ((d.scx.toNat % 8 + px) % 8)) = d.shadeAt mem.read px := by
  simp only [Display.shade_eq, Display.colourIndex, Display.tileAddr_eq, ← num_eq_toNat]
  rfl

end

/-- Settles O54: the row written is the renderer's, pixel by pixel the closed form. -/
theorem renderedScanlineClosedForm : Obligations.RenderedScanlineClosedForm := by
  intro d mem hwf
  refine ⟨fun px hpx => ?_, fun px row hrow => ?_, rfl⟩
  · calc (d.renderScanline mem).pixel px d.scanline
      _ = ((d.fb.setRow d.scanline (d.renderRow mem)).row d.scanline).getD px 0#2 := rfl
      _ = (d.renderRow mem).getD px 0#2 := by rw [Framebuffer.row_setRow_self hwf]
      _ = d.shadeAt mem.read px := by
        rw [List.getD_eq_getElem?_getD, d.renderRow_getElem? mem hpx, d.shade_colourIndex_eq mem px, Option.getD_some]
  · exact congrArg (·.getD px 0#2) (Framebuffer.row_setRow_of_ne hrow)

/-- The memories hold the same bytes of VRAM. -/
def SameVram (mem mem' : Memory) : Prop :=
  ∀ addr, 0x8000 ≤ addr → addr ≤ 0x9FFF → mem.read addr = mem'.read addr

section

variable {d : Display} {mem mem' : Memory}

/-- Both tile maps lie in VRAM (R330). -/
theorem SameVram.mapEntry_eq (h : SameVram mem mem') {row col : Nat} (hrow : row < 32) (hcol : col < 32) :
    d.mapEntry mem row col = d.mapEntry mem' row col := by
  unfold Display.mapEntry Display.mapBase
  split <;> exact h _ (by omega) (by omega)

/-- Both tile tables lie in VRAM (R330). -/
theorem Display.tileAddr_bounds (t : Byte) : 0x8000 ≤ d.tileAddr t ∧ d.tileAddr t ≤ 0x97F0 := by
  have hlt := t.isLt
  have hge := t.le_toInt
  have hle := t.toInt_lt
  unfold Display.tileAddr
  split <;> constructor <;> omega

theorem SameVram.colourIndex_eq (h : SameVram mem mem') (t : Byte) {y : Nat} (hy : y < 8) (x : Nat) :
    d.colourIndex mem t y x = d.colourIndex mem' t y x := by
  obtain ⟨hlo, hhi⟩ := d.tileAddr_bounds t
  simp only [Display.colourIndex, h (d.tileAddr t + 2 * y) (by omega) (by omega),
    h (d.tileAddr t + 2 * y + 1) (by omega) (by omega)]

theorem SameVram.renderRow_eq (h : SameVram mem mem') : d.renderRow mem = d.renderRow mem' := by
  have hline : d.bgLine < 256 := Nat.mod_lt _ (by decide)
  refine List.ext_getElem? fun px => ?_
  by_cases hpx : px < 160
  · rw [d.renderRow_getElem? mem hpx, d.renderRow_getElem? mem' hpx,
      h.mapEntry_eq (by omega) (Nat.mod_lt _ (by decide)), h.colourIndex_eq _ (Nat.mod_lt _ (by decide))]
  · rw [List.getElem?_eq_none (by simpa using hpx), List.getElem?_eq_none (by simpa using hpx)]

end

/-- Settles O55: the renderer reads tile maps and tile tables alone, and both lie in VRAM. -/
theorem rendererReadsOnlyVideoRam : Obligations.RendererReadsOnlyVideoRam := by
  intro d mem mem' h
  have hrow : d.renderRow mem = d.renderRow mem' := SameVram.renderRow_eq h
  rw [Display.renderScanline, hrow]
  rfl

end Sys2Proof.Machine

/-! # Reset and its images (spec/70_reset_and_hazards.md R350 to R354) -/

namespace Sys2Proof.Machine

/-! ## An image loaded at a region's first byte -/

section

variable {m : Memory} {r r' : Region} {image : List Byte} {k : Nat}

theorem Memory.wf_load_region (hwf : m.wf = true) (hlen : image.length ≤ r.size) : (m.load r.base image).wf = true :=
  Memory.wf_load hwf fun _ hk => isKey_of_index_lt (Nat.lt_of_lt_of_le hk hlen)

theorem Memory.read_load_region (hwf : m.wf = true) (hlen : image.length ≤ r.size) (hk : k < image.length) :
    (m.load r.base image).read (r.base + k) = image[k] :=
  Memory.read_load hwf (fun _ hj => isKey_of_index_lt (Nat.lt_of_lt_of_le hj hlen)) hk

/-- Regions do not overlap, so a load changes no byte but those the image covers. -/
theorem Memory.read_load_region_of_not_covered (hlen : image.length ≤ r.size) (hk : k < r'.size)
    (hout : ¬(r' = r ∧ k < image.length)) : (m.load r.base image).read (r'.base + k) = m.read (r'.base + k) := by
  refine Memory.read_load_of_outside (Decidable.byContradiction fun hcovered => ?_)
  obtain ⟨rfl, hindex⟩ := region_key_inj (r' := r) (i' := r'.base + k - r.base) hk (by omega) (by omega)
  exact hout ⟨rfl, by omega⟩

end

/-! ## Reading an image through the router (R51, R52) -/

theorem route_rom {ba : Bool} {addr : Word} (h : addr.toNat ≤ 0x7FFF) (hvisible : ba = true → 0x0100 ≤ addr.toNat) :
    route ba addr = .storage .rom addr.toNat := by
  unfold route
  dsimp only
  rw [if_neg, if_pos h]
  rintro ⟨hle, hba⟩
  exact absurd (hvisible hba) (by omega)

section

variable {s : State} {k : Nat}

theorem State.peek_of_route {addr : Word} {r : Region} {i : Nat} (h : route s.bootActive addr = .storage r i) :
    s.peek addr = some (s.mem.read (r.base + i)) := by
  simp only [State.peek, h]

/-- The cartridge byte is read wherever the overlay does not cover it. -/
theorem State.peek_rom (hk : k ≤ 0x7FFF) (hvisible : s.bootActive = true → 0x0100 ≤ k) :
    s.peek (BitVec.ofNat 16 k) = some (s.mem.read (Region.rom.base + k)) := by
  have hnat : (BitVec.ofNat 16 k).toNat = k := Nat.mod_eq_of_lt (by omega)
  rw [State.peek_of_route (route_rom (by rwa [hnat]) (by rwa [hnat])), hnat]

theorem State.peek_overlay (hboot : s.bootActive = true) (hk : k ≤ 0x00FF) :
    s.peek (BitVec.ofNat 16 k) = some (s.mem.read (Region.boot.base + k)) := by
  have hnat : (BitVec.ofNat 16 k).toNat = k := Nat.mod_eq_of_lt (by omega)
  have hroute : route s.bootActive (BitVec.ofNat 16 k) = .storage .boot (BitVec.ofNat 16 k).toNat := by
    rw [hboot, route_overlay (by rwa [hnat])]
  rw [State.peek_of_route hroute, hnat]

end

/-! ## The state a reset builds -/

theorem Display.timed_reset : Display.reset.Timed := ⟨by decide, by decide, by decide⟩

theorem State.inv_afterReset {mem : Memory} (regs : InitRegs) (overlay : Bool) (hmem : mem.wf = true) :
    (State.afterReset regs mem overlay).Inv :=
  ⟨hmem, rfl, Display.timed_reset, rfl, rfl⟩

theorem State.reset_eq_afterReset : State.reset = .afterReset {} [] false := rfl

theorem ResetArgs.builds_afterReset (args : ResetArgs) (mem : Memory) (overlay : Bool) :
    args.Builds overlay (.afterReset args.regs mem overlay) := rfl

theorem blankRow_getD (x : Nat) : blankRow.getD x 0#2 = 0#2 := by
  rw [blankRow, List.getD_eq_getElem?_getD, List.getElem?_replicate]
  split <;> rfl

/-- Settles O57: `State.reset` is the reset with nothing drawn and nothing loaded, and no row of its picture is listed. -/
theorem resetState : Obligations.ResetState := by
  refine ⟨?_, rfl, rfl, rfl, rfl, rfl, rfl, rfl, rfl, rfl, rfl, rfl, rfl, rfl, rfl, rfl, rfl, fun x y => ?_⟩
  · rw [State.reset_eq_afterReset]
    exact State.inv_afterReset {} false Memory.wf_nil
  · calc State.reset.pixel x y = blankRow.getD x 0#2 := rfl
      _ = 0#2 := blankRow_getD x

/-! ## What `State.resetWith` answers (R354) -/

section

variable {args : ResetArgs} {image : List Byte}

/-- Memory after a reset has copied its cartridge image (R351). -/
def ResetArgs.romLoaded (args : ResetArgs) : Memory := args.initMem.load Region.rom.base args.rom

theorem State.resetWith_of_rom_too_long (h : 32768 < args.rom.length) :
    State.resetWith args = .refused (.romImageTooLong args.rom.length) := if_pos h

theorem State.resetWith_of_no_boot (hrom : args.rom.length ≤ Region.rom.size) (hboot : args.boot = none) :
    State.resetWith args = .next (.afterReset args.regs args.romLoaded false) := by
  rw [State.resetWith, if_neg (Nat.not_lt.mpr hrom), hboot]
  rfl

theorem State.resetWith_of_boot_not_256 (hrom : args.rom.length ≤ Region.rom.size) (hboot : args.boot = some image)
    (hlen : image.length ≠ 256) : State.resetWith args = .refused (.bootImageNot256 image.length) := by
  rw [State.resetWith, if_neg (Nat.not_lt.mpr hrom), hboot]
  exact if_pos hlen

theorem State.resetWith_of_boot (hrom : args.rom.length ≤ Region.rom.size) (hboot : args.boot = some image)
    (hlen : image.length = 256) :
    State.resetWith args = .next (.afterReset args.regs (args.romLoaded.load Region.boot.base image) true) := by
  rw [State.resetWith, if_neg (Nat.not_lt.mpr hrom), hboot]
  exact if_neg (not_not_intro hlen)

/-! ## The memory a reset leaves -/

section

variable {r : Region} {k : Nat}

theorem ResetArgs.wf_romLoaded (hwf : args.initMem.wf = true) (hrom : args.rom.length ≤ 32768) :
    args.romLoaded.wf = true :=
  Memory.wf_load_region (r := .rom) hwf hrom

theorem ResetArgs.read_romLoaded (hwf : args.initMem.wf = true) (hrom : args.rom.length ≤ 32768)
    (hk : k < args.rom.length) : args.romLoaded.read (Region.rom.base + k) = args.rom[k] :=
  Memory.read_load_region (r := .rom) hwf hrom hk

theorem ResetArgs.read_romLoaded_of_not_covered (hrom : args.rom.length ≤ 32768) (hk : k < r.size)
    (hout : ¬(r = .rom ∧ k < args.rom.length)) : args.romLoaded.read (r.base + k) = args.initMem.read (r.base + k) :=
  Memory.read_load_region_of_not_covered (r := .rom) hrom hk hout

/-- The boot image is kept apart from every other region, ROM included (R52). -/
theorem Memory.read_load_boot_of_ne {m : Memory} (hlen : image.length = 256) (hr : r ≠ .boot) (hk : k < r.size) :
    (m.load Region.boot.base image).read (r.base + k) = m.read (r.base + k) :=
  Memory.read_load_region_of_not_covered (r := .boot) (Nat.le_of_eq hlen) hk fun h => hr h.1

/-- A state whose memory holds the cartridge image at ROM answers with it wherever the overlay does not cover it. -/
theorem State.peek_cartridge {s : State} (hrom : args.rom.length ≤ 32768) (hk : k < args.rom.length)
    (hread : s.mem.read (Region.rom.base + k) = args.rom[k]) (hvisible : s.bootActive = true → 0x0100 ≤ k) :
    s.peek (BitVec.ofNat 16 k) = args.rom[k]? := by
  rw [State.peek_rom (by omega) hvisible, hread, List.getElem?_eq_getElem hk]

end

end

/-- Settles O58: each answer of `State.resetWith` in turn; the regions keep the two images and everything else apart, and
the overlay decides which of the two is read below 0x0100. -/
theorem resetLoadsImages : Obligations.ResetLoadsImages := by
  intro args hwf
  refine ⟨State.resetWith_of_rom_too_long, fun _ => State.resetWith_of_boot_not_256, fun hrom hboot => ?_,
    fun image hrom hboot hlen => ?_⟩
  · refine ⟨_, State.resetWith_of_no_boot hrom hboot, State.inv_afterReset _ _ (args.wf_romLoaded hwf hrom),
      args.builds_afterReset _ _, fun k hk => ?_, fun r k => ResetArgs.read_romLoaded_of_not_covered hrom⟩
    exact State.peek_cartridge hrom hk (ResetArgs.read_romLoaded hwf hrom hk) nofun
  · have hromWf : args.romLoaded.wf = true := args.wf_romLoaded hwf hrom
    have hread : ∀ k (hk : k < args.rom.length),
        (args.romLoaded.load Region.boot.base image).read (Region.rom.base + k) = args.rom[k] := fun k hk =>
      (Memory.read_load_boot_of_ne (r := .rom) hlen nofun (Nat.lt_of_lt_of_le hk hrom)).trans
        (ResetArgs.read_romLoaded hwf hrom hk)
    have hfits : image.length ≤ Region.boot.size := Nat.le_of_eq hlen
    refine ⟨_, State.resetWith_of_boot hrom hboot hlen,
      State.inv_afterReset _ _ (Memory.wf_load_region (r := .boot) hromWf hfits), args.builds_afterReset _ _,
      fun k hk => ?_, fun k hlo hk => ?_, fun k hk => ?_, fun r k hk hr hout => ?_⟩
    · have hk' : k < image.length := Nat.lt_of_lt_of_eq hk hlen.symm
      rw [State.peek_overlay rfl (Nat.le_of_lt_succ hk), List.getElem?_eq_getElem hk']
      exact congrArg some (Memory.read_load_region (r := .boot) hromWf hfits hk')
    · exact State.peek_cartridge hrom hk (hread k hk) fun _ => hlo
    · exact State.peek_cartridge hrom hk (hread k hk) nofun
    · exact (Memory.read_load_boot_of_ne hlen hr hk).trans (ResetArgs.read_romLoaded_of_not_covered hrom hk hout)

end Sys2Proof.Machine
